-- ==== Sys2Proof/Word.lean ====
section
/-! DEFINITION. The byte, the six-byte hardware address and the words the decoder reads (spec R8, R31). -/

namespace Sys2Proof

/-- One byte of the input buffer; bit 0 is its least significant bit (R8). -/
abbrev Byte := BitVec 8

/-- A hardware address: six bytes in buffer order, not an integer (R31). -/
abbrev HwAddress := Vector Byte 6

/-- The address register's reset value, six zero bytes (R25). -/
abbrev HwAddress.zero : HwAddress := #v[0, 0, 0, 0, 0, 0]

end Sys2Proof
end

