-- ==== Sys2Proof/Syntax.lean ====
section
/-! DEFINITION. What the decoder is given and what it names: the decoded Frame Control, the frame classes (one constructor
of `Instr` for each row of spec/opcode_table.json), the BitCursor operations, the decode errors and the host's events. -/

namespace Sys2Proof

/-- The decoded Frame Control field: the registers `FC_VERSION`, `FC_TYPE`, `FC_SUBTYPE` and `FC_FLAGS` (R17, R18). -/
structure FrameControl where
  version : BitVec 2
  type : BitVec 2
  subtype : BitVec 4
  flags : Byte
deriving DecidableEq, Repr

/-- `FAMILY`, the frame's family (R19, R65). -/
inductive Family where
  | control
  | management
  | data
  | extension
deriving DecidableEq, Repr

/-- The Control subtypes (R66). `reserved` carries its 4-bit code (R70). -/
inductive ControlSubtype where
  | reserved (code : BitVec 4)
  | trigger
  | beamformingReportPoll
  | vhtNdpAnnouncement
  | controlFrameExtension
  | controlWrapper
  | blockAckRequest
  | blockAck
  | psPoll
  | rts
  | cts
  | ack
  | cfEnd
  | cfEndCfAck
deriving DecidableEq, Repr

/-- The Management subtypes (R67). `reserved` carries its 4-bit code (R70). -/
inductive ManagementSubtype where
  | associationRequest
  | associationResponse
  | reassociationRequest
  | reassociationResponse
  | probeRequest
  | probeResponse
  | timingAdvertisement
  | beacon
  | atim
  | disassociation
  | authentication
  | deauthentication
  | action
  | actionNoAck
  | reserved (code : BitVec 4)
deriving DecidableEq, Repr

/-- The Data subtype: four independent bits and the derived `has_data` (R68). -/
structure DataSubtype where
  ack : Bool
  poll : Bool
  null : Bool
  qos : Bool
  hasData : Bool
deriving DecidableEq, Repr

/-- The Extension subtypes (R69). `reserved` carries its 4-bit code (R70). -/
inductive ExtensionSubtype where
  | dmgBeacon
  | reserved (code : BitVec 4)
deriving DecidableEq, Repr

/-- `SUBKIND`, the family-specific meaning of the subtype code (R19). -/
inductive Subkind where
  | control (k : ControlSubtype)
  | management (k : ManagementSubtype)
  | data (k : DataSubtype)
  | extension (k : ExtensionSubtype)
deriving DecidableEq, Repr

/-- The frame classes, one constructor for each row of spec/opcode_table.json (R49), named by the mnemonics of R53.
The operand `flags` is Frame Control byte 1, which takes part in no match (R46, R49). The rows of the unsupported versions
match `fc0[1:0]` alone, so they carry the type and subtype bits their mask leaves free (assumption log 2). -/
inductive Instr where
  | mgtAssocReq (flags : Byte)
  | mgtAssocResp (flags : Byte)
  | mgtReassocReq (flags : Byte)
  | mgtReassocResp (flags : Byte)
  | mgtProbeReq (flags : Byte)
  | mgtProbeResp (flags : Byte)
  | mgtTimingAdv (flags : Byte)
  | mgtReserved7 (flags : Byte)
  | mgtBeacon (flags : Byte)
  | mgtAtim (flags : Byte)
  | mgtDisassoc (flags : Byte)
  | mgtAuth (flags : Byte)
  | mgtDeauth (flags : Byte)
  | mgtAction (flags : Byte)
  | mgtActionNoAck (flags : Byte)
  | mgtReservedF (flags : Byte)
  | ctlReserved0 (flags : Byte)
  | ctlReserved1 (flags : Byte)
  | ctlTrigger (flags : Byte)
  | ctlReserved3 (flags : Byte)
  | ctlBfReportPoll (flags : Byte)
  | ctlVhtNdpAnnouncement (flags : Byte)
  | ctlFrameExtension (flags : Byte)
  | ctlWrapper (flags : Byte)
  | ctlBlockAckReq (flags : Byte)
  | ctlBlockAck (flags : Byte)
  | ctlPsPoll (flags : Byte)
  | ctlRts (flags : Byte)
  | ctlCts (flags : Byte)
  | ctlAck (flags : Byte)
  | ctlCfEnd (flags : Byte)
  | ctlCfEndCfAck (flags : Byte)
  | data (flags : Byte)
  | dataAck (flags : Byte)
  | dataPoll (flags : Byte)
  | dataAckPoll (flags : Byte)
  | dataNull (flags : Byte)
  | dataAckNull (flags : Byte)
  | dataPollNull (flags : Byte)
  | dataAckPollNull (flags : Byte)
  | dataQos (flags : Byte)
  | dataAckQos (flags : Byte)
  | dataPollQos (flags : Byte)
  | dataAckPollQos (flags : Byte)
  | dataNullQos (flags : Byte)
  | dataAckNullQos (flags : Byte)
  | dataPollNullQos (flags : Byte)
  | dataAckPollNullQos (flags : Byte)
  | extDmgBeacon (flags : Byte)
  | extReserved1 (flags : Byte)
  | extReserved2 (flags : Byte)
  | extReserved3 (flags : Byte)
  | extReserved4 (flags : Byte)
  | extReserved5 (flags : Byte)
  | extReserved6 (flags : Byte)
  | extReserved7 (flags : Byte)
  | extReserved8 (flags : Byte)
  | extReserved9 (flags : Byte)
  | extReservedA (flags : Byte)
  | extReservedB (flags : Byte)
  | extReservedC (flags : Byte)
  | extReservedD (flags : Byte)
  | extReservedE (flags : Byte)
  | extReservedF (flags : Byte)
  | unsupportedVersion1 (type : BitVec 2) (subtype : BitVec 4) (flags : Byte)
  | unsupportedVersion2 (type : BitVec 2) (subtype : BitVec 4) (flags : Byte)
  | unsupportedVersion3 (type : BitVec 2) (subtype : BitVec 4) (flags : Byte)
deriving DecidableEq, Repr

/-- The BitCursor operations (R55 to R60). They have no encoding: the state machine issues them in a fixed order (R54). -/
inductive CursorOp where
  | takeBits (n : Nat)
  | takeBool
  | byteAlign
  | takeBytes (n : Nat)
  | skipBytes (n : Nat)
  | readU16
  | readU32
  | remainingBits
  | remainingBytes
deriving DecidableEq, Repr

/-- A decode failure: its kind and the byte offset it records (R104). `inconsistentLength` is raised by no rule (R108). -/
inductive DecodeError where
  | truncated (offset : Nat)
  | unsupportedVersion (offset : Nat)
  | invalidAddress (offset : Nat)
  | inconsistentLength (offset : Nat)
deriving DecidableEq, Repr

/-- What the host's input ports carry during one step (R27, R118): no signal, a request that presents a frame on `BUF` and
`len`, or a reset. The host has no event that changes the buffer otherwise (R37, R121; assumption log 3 and 4). -/
inductive HostEvent where
  | quiet
  | request (frame : List Byte)
  | reset
deriving DecidableEq, Repr

end Sys2Proof
end

