-- ==== Sys2Proof/Config.lean ====
section
/-! DEFINITION. The sizes the spec fixes (R6), the three parameters it leaves open (R7) and the model's one free value. The
values this hardware takes for the parameters stand in Machine/Flags.lean, `Sys2Proof.Machine.hardware`. -/

namespace Sys2Proof

/-- The parameters the source leaves open; a model takes each as an argument (R7). -/
structure Config where
  /-- `LEN_MAX`: the largest buffer length that a request may present, `none` for unbounded (D4). -/
  lenMax : Option Nat
  /-- `ADDR_VALID`: which six-byte values the address constructor accepts (D8). -/
  addrValid : HwAddress → Bool
  /-- `HT_PRESENT`: whether the decoded Frame Control calls for HT Control (D9). -/
  htPresent : FrameControl → Bool

/-- `FC_LEN` (R6). -/
abbrev Config.fcLen : Nat := 2
/-- `DUR_LEN` (R6). -/
abbrev Config.durLen : Nat := 2
/-- `ADDR_LEN` (R6). -/
abbrev Config.addrLen : Nat := 6
/-- `SC_LEN` (R6). -/
abbrev Config.scLen : Nat := 2
/-- `QOS_LEN` (R6). -/
abbrev Config.qosLen : Nat := 2
/-- `HT_LEN` (R6). -/
abbrev Config.htLen : Nat := 4
/-- `FCS_LEN` (R6). -/
abbrev Config.fcsLen : Nat := 4
/-- `FIXED_HDR_LEN`: Frame Control, Duration/ID and three addresses (R6). -/
abbrev Config.fixedHdrLen : Nat := 22
/-- `MIN_LEN` (R6). -/
abbrev Config.minLen : Nat := 26
/-- `TAKE_BITS_MIN` (R6). -/
abbrev Config.takeBitsMin : Nat := 1
/-- `TAKE_BITS_MAX` (R6). -/
abbrev Config.takeBitsMax : Nat := 32
/-- `VERSION_SUPPORTED` (R6). -/
abbrev Config.versionSupported : BitVec 2 := 0

/-- FREE VALUE. What `remaining_bytes()` reads as when the cursor stands inside a byte: R60 gives its value only for
`CUR_BIT = 0`. A function of the buffer length and the cursor's bit position; no decode asks for it (assumption log 12). -/
opaque Config.remainingBytesInsideByte (len bitPos : Nat) : Nat

end Sys2Proof
end

