-- ==== Sys2Proof/WellFormed.lean ====
section
/-! DEFINITION. The checks on terms that the machine is handed: the width of a `take_bits` (R61, R114), the buffer length a
host may present (R7), and frame classes, whose operands have exactly the width of their fields. -/

namespace Sys2Proof

/-- `take_bits(n)` is inside its contract exactly for n from 1 to 32 (R6, R61). -/
abbrev takeBitsWidth (n : Nat) : Bool :=
  decide (Config.takeBitsMin ≤ n) && decide (n ≤ Config.takeBitsMax)

/-- A BitCursor operation is well formed when its width is one the contract admits (R61). A term that is not is refused. -/
def CursorOp.wf : CursorOp → Bool
  | .takeBits n => takeBitsWidth n
  | .takeBool => true
  | .byteAlign => true
  | .takeBytes _ => true
  | .skipBytes _ => true
  | .readU16 => true
  | .readU32 => true
  | .remainingBits => true
  | .remainingBytes => true

/-- A buffer length that `LEN_MAX` admits: at most it, and any at all when it is unbounded (R7, R14). -/
def Config.lenFits (cfg : Config) (len : Nat) : Bool :=
  match cfg.lenMax with
  | none => true
  | some m => decide (len ≤ m)

/-- A host event is well formed when the length it presents is at most `LEN_MAX` (R7, R14). With this hardware's unbounded
`LEN_MAX` every event is. -/
def HostEvent.wf (cfg : Config) : HostEvent → Bool
  | .quiet => true
  | .request frame => cfg.lenFits frame.length
  | .reset => true

/-- Every frame class is well formed: each operand is a bit vector of exactly its field's width, every flags value is legal
(R64), every subtype code is assigned or `Reserved` (R70), and an unsupported version admits any type and subtype (R63). -/
def Instr.wf (_ : Instr) : Bool := true

end Sys2Proof
end

