-- ==== Sys2Proof/Decode.lean ====
section
/-! DEFINITION. Reading the Frame Control field: from its two bytes to a frame class (R44 to R46, R49), and back. Decoding is
total: all 256 values of the first byte are some row's (R49), so the one rejection is an input of fewer than two bytes. -/

namespace Sys2Proof

/-- The Frame Control registers as fields of the two bytes (R44, R46). -/
def FrameControl.ofBytes (fc0 fc1 : Byte) : FrameControl :=
  { version := fc0.extractLsb' 0 2
    type := fc0.extractLsb' 2 2
    subtype := fc0.extractLsb' 4 4
    flags := fc1 }

/-- The Frame Control registers as fields of `FCW = (fc0 << 8) | fc1`: `FCW[9:8]`, `FCW[11:10]`, `FCW[15:12]`, `FCW[7:0]`
(R44, R62). -/
def FrameControl.ofWord (fcw : BitVec 16) : FrameControl :=
  { version := fcw.extractLsb' 8 2
    type := fcw.extractLsb' 10 2
    subtype := fcw.extractLsb' 12 4
    flags := fcw.extractLsb' 0 8 }

/-- Frame Control byte 0 put together from the code registers (R44). -/
def FrameControl.byte0 (fc : FrameControl) : Byte :=
  fc.subtype ++ fc.type ++ fc.version

/-- The Control rows by subtype code, most significant bit first (R66). -/
def decodeControl (subtype : BitVec 4) (flags : Byte) : Instr :=
  match subtype.getLsbD 3, subtype.getLsbD 2, subtype.getLsbD 1, subtype.getLsbD 0 with
  | false, false, false, false => .ctlReserved0 flags
  | false, false, false, true => .ctlReserved1 flags
  | false, false, true, false => .ctlTrigger flags
  | false, false, true, true => .ctlReserved3 flags
  | false, true, false, false => .ctlBfReportPoll flags
  | false, true, false, true => .ctlVhtNdpAnnouncement flags
  | false, true, true, false => .ctlFrameExtension flags
  | false, true, true, true => .ctlWrapper flags
  | true, false, false, false => .ctlBlockAckReq flags
  | true, false, false, true => .ctlBlockAck flags
  | true, false, true, false => .ctlPsPoll flags
  | true, false, true, true => .ctlRts flags
  | true, true, false, false => .ctlCts flags
  | true, true, false, true => .ctlAck flags
  | true, true, true, false => .ctlCfEnd flags
  | true, true, true, true => .ctlCfEndCfAck flags

/-- The Management rows by subtype code, most significant bit first (R67). -/
def decodeManagement (subtype : BitVec 4) (flags : Byte) : Instr :=
  match subtype.getLsbD 3, subtype.getLsbD 2, subtype.getLsbD 1, subtype.getLsbD 0 with
  | false, false, false, false => .mgtAssocReq flags
  | false, false, false, true => .mgtAssocResp flags
  | false, false, true, false => .mgtReassocReq flags
  | false, false, true, true => .mgtReassocResp flags
  | false, true, false, false => .mgtProbeReq flags
  | false, true, false, true => .mgtProbeResp flags
  | false, true, true, false => .mgtTimingAdv flags
  | false, true, true, true => .mgtReserved7 flags
  | true, false, false, false => .mgtBeacon flags
  | true, false, false, true => .mgtAtim flags
  | true, false, true, false => .mgtDisassoc flags
  | true, false, true, true => .mgtAuth flags
  | true, true, false, false => .mgtDeauth flags
  | true, true, false, true => .mgtAction flags
  | true, true, true, false => .mgtActionNoAck flags
  | true, true, true, true => .mgtReservedF flags

/-- The Data rows by the bits qos, null, poll, ack, which are the subtype code from its most significant bit (R45, R68). -/
def decodeData (subtype : BitVec 4) (flags : Byte) : Instr :=
  match subtype.getLsbD 3, subtype.getLsbD 2, subtype.getLsbD 1, subtype.getLsbD 0 with
  | false, false, false, false => .data flags
  | false, false, false, true => .dataAck flags
  | false, false, true, false => .dataPoll flags
  | false, false, true, true => .dataAckPoll flags
  | false, true, false, false => .dataNull flags
  | false, true, false, true => .dataAckNull flags
  | false, true, true, false => .dataPollNull flags
  | false, true, true, true => .dataAckPollNull flags
  | true, false, false, false => .dataQos flags
  | true, false, false, true => .dataAckQos flags
  | true, false, true, false => .dataPollQos flags
  | true, false, true, true => .dataAckPollQos flags
  | true, true, false, false => .dataNullQos flags
  | true, true, false, true => .dataAckNullQos flags
  | true, true, true, false => .dataPollNullQos flags
  | true, true, true, true => .dataAckPollNullQos flags

/-- The Extension rows by subtype code, most significant bit first (R69). -/
def decodeExtension (subtype : BitVec 4) (flags : Byte) : Instr :=
  match subtype.getLsbD 3, subtype.getLsbD 2, subtype.getLsbD 1, subtype.getLsbD 0 with
  | false, false, false, false => .extDmgBeacon flags
  | false, false, false, true => .extReserved1 flags
  | false, false, true, false => .extReserved2 flags
  | false, false, true, true => .extReserved3 flags
  | false, true, false, false => .extReserved4 flags
  | false, true, false, true => .extReserved5 flags
  | false, true, true, false => .extReserved6 flags
  | false, true, true, true => .extReserved7 flags
  | true, false, false, false => .extReserved8 flags
  | true, false, false, true => .extReserved9 flags
  | true, false, true, false => .extReservedA flags
  | true, false, true, true => .extReservedB flags
  | true, true, false, false => .extReservedC flags
  | true, true, false, true => .extReservedD flags
  | true, true, true, false => .extReservedE flags
  | true, true, true, true => .extReservedF flags

/-- The version-0 rows, by the type code (R65). -/
def decodeVersion0 (type : BitVec 2) (subtype : BitVec 4) (flags : Byte) : Instr :=
  match type.getLsbD 1, type.getLsbD 0 with
  | false, false => decodeControl subtype flags
  | false, true => decodeManagement subtype flags
  | true, false => decodeData subtype flags
  | true, true => decodeExtension subtype flags

/-- The frame class of a decoded Frame Control: the protocol version first (R63), then the type and the subtype (R49). -/
def decodeFrameControl (fc : FrameControl) : Instr :=
  match fc.version.getLsbD 1, fc.version.getLsbD 0 with
  | false, false => decodeVersion0 fc.type fc.subtype fc.flags
  | false, true => .unsupportedVersion1 fc.type fc.subtype fc.flags
  | true, false => .unsupportedVersion2 fc.type fc.subtype fc.flags
  | true, true => .unsupportedVersion3 fc.type fc.subtype fc.flags

/-- Why bytes do not decode. The only reason: Frame Control is two bytes, and fewer are there (R62). -/
inductive DecodeReject where
  | shorterThanFrameControl
deriving DecidableEq, Repr

/-- The decoder on bytes in buffer order: the frame class and the bytes after Frame Control. -/
def decodeBytes : List Byte → Except DecodeReject (Instr × List Byte)
  | fc0 :: fc1 :: rest => .ok (decodeFrameControl (FrameControl.ofBytes fc0 fc1), rest)
  | [_] => .error .shorterThanFrameControl
  | [] => .error .shorterThanFrameControl

/-- The `mask` column of the opcode table (R49). -/
def Instr.rowMask : Instr → Byte
  | .mgtAssocReq _ => 0xFF
  | .mgtAssocResp _ => 0xFF
  | .mgtReassocReq _ => 0xFF
  | .mgtReassocResp _ => 0xFF
  | .mgtProbeReq _ => 0xFF
  | .mgtProbeResp _ => 0xFF
  | .mgtTimingAdv _ => 0xFF
  | .mgtReserved7 _ => 0xFF
  | .mgtBeacon _ => 0xFF
  | .mgtAtim _ => 0xFF
  | .mgtDisassoc _ => 0xFF
  | .mgtAuth _ => 0xFF
  | .mgtDeauth _ => 0xFF
  | .mgtAction _ => 0xFF
  | .mgtActionNoAck _ => 0xFF
  | .mgtReservedF _ => 0xFF
  | .ctlReserved0 _ => 0xFF
  | .ctlReserved1 _ => 0xFF
  | .ctlTrigger _ => 0xFF
  | .ctlReserved3 _ => 0xFF
  | .ctlBfReportPoll _ => 0xFF
  | .ctlVhtNdpAnnouncement _ => 0xFF
  | .ctlFrameExtension _ => 0xFF
  | .ctlWrapper _ => 0xFF
  | .ctlBlockAckReq _ => 0xFF
  | .ctlBlockAck _ => 0xFF
  | .ctlPsPoll _ => 0xFF
  | .ctlRts _ => 0xFF
  | .ctlCts _ => 0xFF
  | .ctlAck _ => 0xFF
  | .ctlCfEnd _ => 0xFF
  | .ctlCfEndCfAck _ => 0xFF
  | .data _ => 0xFF
  | .dataAck _ => 0xFF
  | .dataPoll _ => 0xFF
  | .dataAckPoll _ => 0xFF
  | .dataNull _ => 0xFF
  | .dataAckNull _ => 0xFF
  | .dataPollNull _ => 0xFF
  | .dataAckPollNull _ => 0xFF
  | .dataQos _ => 0xFF
  | .dataAckQos _ => 0xFF
  | .dataPollQos _ => 0xFF
  | .dataAckPollQos _ => 0xFF
  | .dataNullQos _ => 0xFF
  | .dataAckNullQos _ => 0xFF
  | .dataPollNullQos _ => 0xFF
  | .dataAckPollNullQos _ => 0xFF
  | .extDmgBeacon _ => 0xFF
  | .extReserved1 _ => 0xFF
  | .extReserved2 _ => 0xFF
  | .extReserved3 _ => 0xFF
  | .extReserved4 _ => 0xFF
  | .extReserved5 _ => 0xFF
  | .extReserved6 _ => 0xFF
  | .extReserved7 _ => 0xFF
  | .extReserved8 _ => 0xFF
  | .extReserved9 _ => 0xFF
  | .extReservedA _ => 0xFF
  | .extReservedB _ => 0xFF
  | .extReservedC _ => 0xFF
  | .extReservedD _ => 0xFF
  | .extReservedE _ => 0xFF
  | .extReservedF _ => 0xFF
  | .unsupportedVersion1 _ _ _ => 0x03
  | .unsupportedVersion2 _ _ _ => 0x03
  | .unsupportedVersion3 _ _ _ => 0x03

/-- The `match` column of the opcode table (R49). -/
def Instr.rowMatch : Instr → Byte
  | .mgtAssocReq _ => 0x04
  | .mgtAssocResp _ => 0x14
  | .mgtReassocReq _ => 0x24
  | .mgtReassocResp _ => 0x34
  | .mgtProbeReq _ => 0x44
  | .mgtProbeResp _ => 0x54
  | .mgtTimingAdv _ => 0x64
  | .mgtReserved7 _ => 0x74
  | .mgtBeacon _ => 0x84
  | .mgtAtim _ => 0x94
  | .mgtDisassoc _ => 0xA4
  | .mgtAuth _ => 0xB4
  | .mgtDeauth _ => 0xC4
  | .mgtAction _ => 0xD4
  | .mgtActionNoAck _ => 0xE4
  | .mgtReservedF _ => 0xF4
  | .ctlReserved0 _ => 0x00
  | .ctlReserved1 _ => 0x10
  | .ctlTrigger _ => 0x20
  | .ctlReserved3 _ => 0x30
  | .ctlBfReportPoll _ => 0x40
  | .ctlVhtNdpAnnouncement _ => 0x50
  | .ctlFrameExtension _ => 0x60
  | .ctlWrapper _ => 0x70
  | .ctlBlockAckReq _ => 0x80
  | .ctlBlockAck _ => 0x90
  | .ctlPsPoll _ => 0xA0
  | .ctlRts _ => 0xB0
  | .ctlCts _ => 0xC0
  | .ctlAck _ => 0xD0
  | .ctlCfEnd _ => 0xE0
  | .ctlCfEndCfAck _ => 0xF0
  | .data _ => 0x08
  | .dataAck _ => 0x18
  | .dataPoll _ => 0x28
  | .dataAckPoll _ => 0x38
  | .dataNull _ => 0x48
  | .dataAckNull _ => 0x58
  | .dataPollNull _ => 0x68
  | .dataAckPollNull _ => 0x78
  | .dataQos _ => 0x88
  | .dataAckQos _ => 0x98
  | .dataPollQos _ => 0xA8
  | .dataAckPollQos _ => 0xB8
  | .dataNullQos _ => 0xC8
  | .dataAckNullQos _ => 0xD8
  | .dataPollNullQos _ => 0xE8
  | .dataAckPollNullQos _ => 0xF8
  | .extDmgBeacon _ => 0x0C
  | .extReserved1 _ => 0x1C
  | .extReserved2 _ => 0x2C
  | .extReserved3 _ => 0x3C
  | .extReserved4 _ => 0x4C
  | .extReserved5 _ => 0x5C
  | .extReserved6 _ => 0x6C
  | .extReserved7 _ => 0x7C
  | .extReserved8 _ => 0x8C
  | .extReserved9 _ => 0x9C
  | .extReservedA _ => 0xAC
  | .extReservedB _ => 0xBC
  | .extReservedC _ => 0xCC
  | .extReservedD _ => 0xDC
  | .extReservedE _ => 0xEC
  | .extReservedF _ => 0xFC
  | .unsupportedVersion1 _ _ _ => 0x01
  | .unsupportedVersion2 _ _ _ => 0x02
  | .unsupportedVersion3 _ _ _ => 0x03

/-- Frame Control byte 0 of a frame class, bits 7..4 subtype, 3..2 type, 1..0 version (R44). -/
def Instr.byte0 : Instr → Byte
  | .mgtAssocReq _ => 0x0#4 ++ 1#2 ++ 0#2
  | .mgtAssocResp _ => 0x1#4 ++ 1#2 ++ 0#2
  | .mgtReassocReq _ => 0x2#4 ++ 1#2 ++ 0#2
  | .mgtReassocResp _ => 0x3#4 ++ 1#2 ++ 0#2
  | .mgtProbeReq _ => 0x4#4 ++ 1#2 ++ 0#2
  | .mgtProbeResp _ => 0x5#4 ++ 1#2 ++ 0#2
  | .mgtTimingAdv _ => 0x6#4 ++ 1#2 ++ 0#2
  | .mgtReserved7 _ => 0x7#4 ++ 1#2 ++ 0#2
  | .mgtBeacon _ => 0x8#4 ++ 1#2 ++ 0#2
  | .mgtAtim _ => 0x9#4 ++ 1#2 ++ 0#2
  | .mgtDisassoc _ => 0xA#4 ++ 1#2 ++ 0#2
  | .mgtAuth _ => 0xB#4 ++ 1#2 ++ 0#2
  | .mgtDeauth _ => 0xC#4 ++ 1#2 ++ 0#2
  | .mgtAction _ => 0xD#4 ++ 1#2 ++ 0#2
  | .mgtActionNoAck _ => 0xE#4 ++ 1#2 ++ 0#2
  | .mgtReservedF _ => 0xF#4 ++ 1#2 ++ 0#2
  | .ctlReserved0 _ => 0x0#4 ++ 0#2 ++ 0#2
  | .ctlReserved1 _ => 0x1#4 ++ 0#2 ++ 0#2
  | .ctlTrigger _ => 0x2#4 ++ 0#2 ++ 0#2
  | .ctlReserved3 _ => 0x3#4 ++ 0#2 ++ 0#2
  | .ctlBfReportPoll _ => 0x4#4 ++ 0#2 ++ 0#2
  | .ctlVhtNdpAnnouncement _ => 0x5#4 ++ 0#2 ++ 0#2
  | .ctlFrameExtension _ => 0x6#4 ++ 0#2 ++ 0#2
  | .ctlWrapper _ => 0x7#4 ++ 0#2 ++ 0#2
  | .ctlBlockAckReq _ => 0x8#4 ++ 0#2 ++ 0#2
  | .ctlBlockAck _ => 0x9#4 ++ 0#2 ++ 0#2
  | .ctlPsPoll _ => 0xA#4 ++ 0#2 ++ 0#2
  | .ctlRts _ => 0xB#4 ++ 0#2 ++ 0#2
  | .ctlCts _ => 0xC#4 ++ 0#2 ++ 0#2
  | .ctlAck _ => 0xD#4 ++ 0#2 ++ 0#2
  | .ctlCfEnd _ => 0xE#4 ++ 0#2 ++ 0#2
  | .ctlCfEndCfAck _ => 0xF#4 ++ 0#2 ++ 0#2
  | .data _ => 0x0#4 ++ 2#2 ++ 0#2
  | .dataAck _ => 0x1#4 ++ 2#2 ++ 0#2
  | .dataPoll _ => 0x2#4 ++ 2#2 ++ 0#2
  | .dataAckPoll _ => 0x3#4 ++ 2#2 ++ 0#2
  | .dataNull _ => 0x4#4 ++ 2#2 ++ 0#2
  | .dataAckNull _ => 0x5#4 ++ 2#2 ++ 0#2
  | .dataPollNull _ => 0x6#4 ++ 2#2 ++ 0#2
  | .dataAckPollNull _ => 0x7#4 ++ 2#2 ++ 0#2
  | .dataQos _ => 0x8#4 ++ 2#2 ++ 0#2
  | .dataAckQos _ => 0x9#4 ++ 2#2 ++ 0#2
  | .dataPollQos _ => 0xA#4 ++ 2#2 ++ 0#2
  | .dataAckPollQos _ => 0xB#4 ++ 2#2 ++ 0#2
  | .dataNullQos _ => 0xC#4 ++ 2#2 ++ 0#2
  | .dataAckNullQos _ => 0xD#4 ++ 2#2 ++ 0#2
  | .dataPollNullQos _ => 0xE#4 ++ 2#2 ++ 0#2
  | .dataAckPollNullQos _ => 0xF#4 ++ 2#2 ++ 0#2
  | .extDmgBeacon _ => 0x0#4 ++ 3#2 ++ 0#2
  | .extReserved1 _ => 0x1#4 ++ 3#2 ++ 0#2
  | .extReserved2 _ => 0x2#4 ++ 3#2 ++ 0#2
  | .extReserved3 _ => 0x3#4 ++ 3#2 ++ 0#2
  | .extReserved4 _ => 0x4#4 ++ 3#2 ++ 0#2
  | .extReserved5 _ => 0x5#4 ++ 3#2 ++ 0#2
  | .extReserved6 _ => 0x6#4 ++ 3#2 ++ 0#2
  | .extReserved7 _ => 0x7#4 ++ 3#2 ++ 0#2
  | .extReserved8 _ => 0x8#4 ++ 3#2 ++ 0#2
  | .extReserved9 _ => 0x9#4 ++ 3#2 ++ 0#2
  | .extReservedA _ => 0xA#4 ++ 3#2 ++ 0#2
  | .extReservedB _ => 0xB#4 ++ 3#2 ++ 0#2
  | .extReservedC _ => 0xC#4 ++ 3#2 ++ 0#2
  | .extReservedD _ => 0xD#4 ++ 3#2 ++ 0#2
  | .extReservedE _ => 0xE#4 ++ 3#2 ++ 0#2
  | .extReservedF _ => 0xF#4 ++ 3#2 ++ 0#2
  | .unsupportedVersion1 type subtype _ => subtype ++ type ++ 1#2
  | .unsupportedVersion2 type subtype _ => subtype ++ type ++ 2#2
  | .unsupportedVersion3 type subtype _ => subtype ++ type ++ 3#2

/-- Frame Control byte 1, the flags operand (R46). -/
def Instr.flags : Instr → Byte
  | .mgtAssocReq flags => flags
  | .mgtAssocResp flags => flags
  | .mgtReassocReq flags => flags
  | .mgtReassocResp flags => flags
  | .mgtProbeReq flags => flags
  | .mgtProbeResp flags => flags
  | .mgtTimingAdv flags => flags
  | .mgtReserved7 flags => flags
  | .mgtBeacon flags => flags
  | .mgtAtim flags => flags
  | .mgtDisassoc flags => flags
  | .mgtAuth flags => flags
  | .mgtDeauth flags => flags
  | .mgtAction flags => flags
  | .mgtActionNoAck flags => flags
  | .mgtReservedF flags => flags
  | .ctlReserved0 flags => flags
  | .ctlReserved1 flags => flags
  | .ctlTrigger flags => flags
  | .ctlReserved3 flags => flags
  | .ctlBfReportPoll flags => flags
  | .ctlVhtNdpAnnouncement flags => flags
  | .ctlFrameExtension flags => flags
  | .ctlWrapper flags => flags
  | .ctlBlockAckReq flags => flags
  | .ctlBlockAck flags => flags
  | .ctlPsPoll flags => flags
  | .ctlRts flags => flags
  | .ctlCts flags => flags
  | .ctlAck flags => flags
  | .ctlCfEnd flags => flags
  | .ctlCfEndCfAck flags => flags
  | .data flags => flags
  | .dataAck flags => flags
  | .dataPoll flags => flags
  | .dataAckPoll flags => flags
  | .dataNull flags => flags
  | .dataAckNull flags => flags
  | .dataPollNull flags => flags
  | .dataAckPollNull flags => flags
  | .dataQos flags => flags
  | .dataAckQos flags => flags
  | .dataPollQos flags => flags
  | .dataAckPollQos flags => flags
  | .dataNullQos flags => flags
  | .dataAckNullQos flags => flags
  | .dataPollNullQos flags => flags
  | .dataAckPollNullQos flags => flags
  | .extDmgBeacon flags => flags
  | .extReserved1 flags => flags
  | .extReserved2 flags => flags
  | .extReserved3 flags => flags
  | .extReserved4 flags => flags
  | .extReserved5 flags => flags
  | .extReserved6 flags => flags
  | .extReserved7 flags => flags
  | .extReserved8 flags => flags
  | .extReserved9 flags => flags
  | .extReservedA flags => flags
  | .extReservedB flags => flags
  | .extReservedC flags => flags
  | .extReservedD flags => flags
  | .extReservedE flags => flags
  | .extReservedF flags => flags
  | .unsupportedVersion1 _ _ flags => flags
  | .unsupportedVersion2 _ _ flags => flags
  | .unsupportedVersion3 _ _ flags => flags

/-- The two Frame Control bytes of a frame class, in buffer order (R44, R46). The hardware has no encoder (R5): this is the
inverse of the table, for statements about decoding. -/
def encode (i : Instr) : List Byte := [i.byte0, i.flags]

/-- The Frame Control registers that a frame of this class sets (R62). -/
def Instr.frameControl (i : Instr) : FrameControl := FrameControl.ofBytes i.byte0 i.flags

/-- The bits `w` of an instruction as bytes in buffer order: the first byte is bits 7..0, the second bits 15..8, and bits from
`nbits` up are 0. -/
def tableBytes (nbits w : Nat) : List Byte :=
  [BitVec.ofNat 8 (w % 2 ^ nbits), BitVec.ofNat 8 (w % 2 ^ nbits / 256)]

/-- The frame class the decoder reads from a table word. -/
def decodeTableWord (nbits w : Nat) : Option Instr :=
  match decodeBytes (tableBytes nbits w) with
  | .ok (i, _) => some i
  | .error _ => none

end Sys2Proof
end

