-- ==== Sys2Proof/Machine/Memory.lean ====
section
/-! DEFINITION. The input buffer `BUF` as data (R14, R28): a list of offset and byte pairs in one canonical form, with the
reads of R29 to R31. The decoder only reads; the writes below are the host's, when it presents a frame. -/

namespace Sys2Proof.Machine

/-- The buffer's bytes: offsets strictly rising, no entry equal to what an unlisted offset reads as. -/
abbrev Memory := List Host.Cell

/-- What an offset that the list does not name reads as (DESIGN CHOICE, assumption log 5). -/
def Memory.unlisted : Byte := 0

/-- `BUF[a]`. -/
def Memory.read : Memory → Nat → Byte
  | [], _ => Memory.unlisted
  | (k, v) :: rest, a => if k = a then v else read rest a

/-- The buffer with byte `v` at offset `a`, in canonical form again. -/
def Memory.write : Memory → Nat → Byte → Memory
  | [], a, v => if v = Memory.unlisted then [] else [(a, v)]
  | (k, w) :: rest, a, v =>
    if a < k then (if v = Memory.unlisted then (k, w) :: rest else (a, v) :: (k, w) :: rest)
    else if a = k then (if v = Memory.unlisted then rest else (a, v) :: rest)
    else (k, w) :: write rest a v

/-- The bytes of a frame laid out from offset `off` on. -/
def Memory.layOut (off : Nat) : List Byte → Memory
  | [] => []
  | b :: bs => if b = Memory.unlisted then layOut (off + 1) bs else (off, b) :: layOut (off + 1) bs

/-- The buffer that holds a frame from offset 0 (R119 item 1). -/
def Memory.ofBytes (frame : List Byte) : Memory := layOut 0 frame

/-- Every listed offset is at least `lo`, the offsets rise strictly, and no listed byte is the unlisted one. -/
def Memory.wfFrom (lo : Nat) : Memory → Bool
  | [] => true
  | (k, v) :: rest => decide (lo ≤ k) && decide (v ≠ Memory.unlisted) && wfFrom (k + 1) rest

/-- The canonical form. -/
def Memory.wf (m : Memory) : Bool := wfFrom 0 m

/-- Every listed offset lies below `len`: the buffer names no byte outside `BUF[0..len)`. -/
def Memory.inside (len : Nat) : Memory → Bool
  | [] => true
  | (k, _) :: rest => decide (k < len) && inside len rest

/-- Bit number `p` of the buffer, counted from the most significant bit of byte 0 (R29): `BUF[p div 8][7 - (p mod 8)]`. -/
def Memory.bit (m : Memory) (p : Nat) : Bool := (m.read (p / 8)).getLsbD (7 - p % 8)

/-- The `n` bits from bit number `p` on, the first one most significant (R29, R55). -/
def Memory.bits (m : Memory) (p : Nat) : (n : Nat) → BitVec n
  | 0 => 0#0
  | n + 1 => (bits m p n).concat (bit m (p + n))

/-- `MemBytes(off, n)`, the bytes in buffer order (R9, R31). -/
def Memory.bytes (m : Memory) (off n : Nat) : Vector Byte n := Vector.ofFn fun k => m.read (off + k.val)

/-- `MemRead(off, 2)`, first byte most significant (R30). -/
def Memory.read16 (m : Memory) (off : Nat) : BitVec 16 := m.read off ++ m.read (off + 1)

/-- `MemRead(off, 4)`, first byte most significant (R30). -/
def Memory.read32 (m : Memory) (off : Nat) : BitVec 32 :=
  m.read off ++ m.read (off + 1) ++ m.read (off + 2) ++ m.read (off + 3)

end Sys2Proof.Machine
end

