-- ==== Sys2Proof/Machine/State.lean ====
section
/-! DEFINITION. Everything the spec gives the decoder as state (10_state.md), as plain data, its reset value (R25), and the
reasons a step can stop. `DONE`, the classification and the presence predicates are functions of it (R19, R20, R23). -/

namespace Sys2Proof.Machine

/-- `STATE`, the FrameAssembler state: these twelve values and no others (R16). -/
inductive Stage where
  | idle
  | start
  | frameControlDecoded
  | addressesDecoded
  | sequenceControlResolved
  | address4Resolved
  | qosResolved
  | htResolved
  | bodyResolved
  | integrityFieldRead
  | done
  | failed
deriving DecidableEq, Repr

/-- `STATUS`, the result code: these five values and no others (R23, R104). -/
inductive Status where
  | ok
  | truncated
  | unsupportedVersion
  | invalidAddress
  | inconsistentLength
deriving DecidableEq, Repr

/-- The BitCursor's position (R15): `CUR_BYTE`, and `CUR_BIT`, how many bits of that byte are consumed. -/
structure Cursor where
  byte : Nat
  bit : Fin 8
deriving DecidableEq, Repr

/-- The field registers (R21). -/
structure Fields where
  durationId : BitVec 16
  addr1 : HwAddress
  addr2 : HwAddress
  addr3 : HwAddress
  addr4 : HwAddress
  addr4Valid : Bool
  scValid : Bool
  scFrag : BitVec 4
  scSeq : BitVec 12
  qosValid : Bool
  qos : BitVec 16
  htValid : Bool
  ht : BitVec 32
  hdrLen : Nat
  bodyOff : Nat
  bodyLen : Nat
  fcs : BitVec 32
deriving DecidableEq, Repr

/-- The role outputs `ROLE1` to `ROLE4`: bit 0 RA, bit 1 TA, bit 2 DA, bit 3 SA, bit 4 BSSID (R22). -/
structure Roles where
  role1 : BitVec 5
  role2 : BitVec 5
  role3 : BitVec 5
  role4 : BitVec 5
deriving DecidableEq, Repr

/-- The decoder and what its input ports carry. `buf` and `len` are inputs, not registers (R14); `host` is the model's own:
what the host's ports carry in the coming steps, one event a step, no signal when the list is empty (assumption log 3). -/
structure State where
  stage : Stage
  cur : Cursor
  fc : FrameControl
  fields : Fields
  roles : Roles
  status : Status
  errOffset : Nat
  buf : Memory
  len : Nat
  host : List HostEvent
deriving DecidableEq, Repr

/-- Why the machine stops with an internal fault. -/
inductive Fault where
  /-- `internal_fault(Misaligned)`: raised by `byte_align` when `CUR_BIT` is not 0 (R57, R114, D19). Safe: the spec has the
  model stop here, and no decode reaches it. -/
  | misaligned
deriving DecidableEq, Repr

/-- Why the machine gives a term no meaning. -/
inductive Refusal where
  /-- Raised by an arm of `exec` whose frame class has no meaning yet; no arm is one. Safe: the machine stops. -/
  | notModelled (mnemonic : String)
  /-- Raised by `take_bits(n)` with n outside 1 to 32: outside the contract, refused at the term boundary (R61, R114, D20).
  Safe: the spec has the model refuse the term, and no decode issues it. -/
  | takeBitsWidth (n : Nat)
  /-- Raised by a request that would be accepted and presents a buffer longer than `LEN_MAX`: `L` has that upper bound where a
  model sets it (R7, R14), and the spec gives a longer buffer no effect (assumption log 23). Safe: the machine stops, and with
  this hardware's unbounded `LEN_MAX` it is never raised. -/
  | lenMax (len : Nat)
deriving DecidableEq, Repr

/-- The field registers after reset: all zero (R25). -/
def Fields.reset : Fields :=
  { durationId := 0
    addr1 := HwAddress.zero
    addr2 := HwAddress.zero
    addr3 := HwAddress.zero
    addr4 := HwAddress.zero
    addr4Valid := false
    scValid := false
    scFrag := 0
    scSeq := 0
    qosValid := false
    qos := 0
    htValid := false
    ht := 0
    hdrLen := 0
    bodyOff := 0
    bodyLen := 0
    fcs := 0 }

/-- The decoder right after reset: every register at its value of R25. No frame has been presented and no event is waiting
(assumption log 3 and 5). -/
def State.reset : State :=
  { stage := .idle
    cur := { byte := 0, bit := 0 }
    fc := { version := 0, type := 0, subtype := 0, flags := 0 }
    fields := Fields.reset
    roles := { role1 := 0, role2 := 0, role3 := 0, role4 := 0 }
    status := .ok
    errOffset := 0
    buf := []
    len := 0
    host := [] }

/-- `STATE <- g`. -/
def State.setStage (s : State) (g : Stage) : State := { s with stage := g }

/-- `cur <- (b, k)`. -/
def State.setCur (s : State) (c : Cursor) : State := { s with cur := c }

/-- Writes the four Frame Control registers. -/
def State.setFc (s : State) (fc : FrameControl) : State := { s with fc := fc }

/-- Writes the field registers. -/
def State.setFields (s : State) (f : Fields) : State := { s with fields := f }

/-- Writes the role outputs. -/
def State.setRoles (s : State) (r : Roles) : State := { s with roles := r }

/-- Writes `STATUS` and `ERR_OFFSET`. -/
def State.setResult (s : State) (st : Status) (off : Nat) : State := { s with status := st, errOffset := off }

/-- The inputs `BUF` and `L`. -/
def State.setInput (s : State) (buf : Memory) (len : Nat) : State := { s with buf := buf, len := len }

/-- The host's coming events. -/
def State.setHost (s : State) (h : List HostEvent) : State := { s with host := h }

end Sys2Proof.Machine
end

