-- ==== Sys2Proof/Machine/Ops.lean ====
section
/-! DEFINITION. The named operations every transition is made of: the BitCursor (R55 to R61), taking a decode failure (R110),
leaving one by a new request (R89), reset (R118). -/

namespace Sys2Proof.Machine

/-- How a micro-operation ends: with a value, by raising a decode failure (R99), by the internal fault, or refused. -/
inductive Res (α : Type) where
  | ok (a : α) (s : State)
  | raised (e : DecodeError) (s : State)
  | fault (f : Fault)
  | refused (r : Refusal)
deriving DecidableEq, Repr

/-- The next micro-operation runs only when this one ended with a value: a failure is terminal (R61, R99). -/
def Res.andThen {α β : Type} (r : Res α) (k : α → State → Res β) : Res β :=
  match r with
  | .ok a s => k a s
  | .raised e s => .raised e s
  | .fault f => .fault f
  | .refused r => .refused r

/-- `pos = 8*CUR_BYTE + CUR_BIT` (R15). -/
def State.bitPos (s : State) : Nat := 8 * s.cur.byte + s.cur.bit.val

/-- The cursor at a bit position: `(pos div 8, pos mod 8)` (R55). -/
def Cursor.ofBitPos (pos : Nat) : Cursor := { byte := pos / 8, bit := ⟨pos % 8, Nat.mod_lt pos (by decide)⟩ }

/-- The cursor on the boundary before byte `b`. -/
def Cursor.atByte (b : Nat) : Cursor := { byte := b, bit := 0 }

/-- `take_bits(n)` (R55). A width outside 1 to 32 is refused (R61); a failing read moves nothing (R61). -/
def takeBits (n : Nat) (s : State) : Res (BitVec n) :=
  if takeBitsWidth n then
    if 8 * s.len < s.bitPos + n then .raised (.truncated s.cur.byte) s
    else .ok (s.buf.bits s.bitPos n) (s.setCur (Cursor.ofBitPos (s.bitPos + n)))
  else .refused (.takeBitsWidth n)

/-- `take_bool()` (R56). -/
def takeBool (s : State) : Res Bool :=
  (takeBits 1 s).andThen fun v s => .ok (v == 1#1) s

/-- `byte_align()` (R57). -/
def byteAlign (s : State) : Res Unit :=
  if s.cur.bit = 0 then .ok () s else .fault .misaligned

/-- `take_bytes(n)` (R58). -/
def takeBytes (n : Nat) (s : State) : Res (Vector Byte n) :=
  (byteAlign s).andThen fun _ s =>
    if s.len < s.cur.byte + n then .raised (.truncated s.cur.byte) s
    else .ok (s.buf.bytes s.cur.byte n) (s.setCur (Cursor.atByte (s.cur.byte + n)))

/-- `skip_bytes(n)` (R58). -/
def skipBytes (n : Nat) (s : State) : Res Unit :=
  (byteAlign s).andThen fun _ s =>
    if s.len < s.cur.byte + n then .raised (.truncated s.cur.byte) s
    else .ok () (s.setCur (Cursor.atByte (s.cur.byte + n)))

/-- `read_u16()` (R59). -/
def readU16 (s : State) : Res (BitVec 16) :=
  (byteAlign s).andThen fun _ s =>
  (takeBits 16 s).andThen fun v s =>
  (byteAlign s).andThen fun _ s => .ok v s

/-- `read_u32()` (R59). -/
def readU32 (s : State) : Res (BitVec 32) :=
  (byteAlign s).andThen fun _ s =>
  (takeBits 32 s).andThen fun v s =>
  (byteAlign s).andThen fun _ s => .ok v s

/-- `remaining_bits()` (R60). -/
def remainingBits (s : State) : Nat := 8 * s.len - s.bitPos

/-- `remaining_bytes()` (R60): stated for an aligned cursor; inside a byte the spec gives no value, so it is the free value of
Config (assumption log 12). -/
def remainingBytes (s : State) : Nat :=
  if s.cur.bit = 0 then s.len - s.cur.byte else Config.remainingBytesInsideByte s.len s.bitPos

/-- What a BitCursor operation returns. -/
inductive CursorValue where
  | none
  | bits (width : Nat) (v : BitVec width)
  | bool (b : Bool)
  | bytes (bs : List Byte)
  | count (n : Nat)
deriving DecidableEq, Repr

/-- One BitCursor operation as a term (R55 to R60). A term that is not well formed is refused at the boundary (R61, R114). -/
def runCursorOp (op : CursorOp) (s : State) : Res CursorValue :=
  match op with
  | .takeBits n => (takeBits n s).andThen fun v s => .ok (.bits n v) s
  | .takeBool => (takeBool s).andThen fun b s => .ok (.bool b) s
  | .byteAlign => (byteAlign s).andThen fun _ s => .ok .none s
  | .takeBytes n => (takeBytes n s).andThen fun bs s => .ok (.bytes bs.toList) s
  | .skipBytes n => (skipBytes n s).andThen fun _ s => .ok .none s
  | .readU16 => (readU16 s).andThen fun v s => .ok (.bits 16 v) s
  | .readU32 => (readU32 s).andThen fun v s => .ok (.bits 32 v) s
  | .remainingBits => .ok (.count (remainingBits s)) s
  | .remainingBytes => .ok (.count (remainingBytes s)) s

/-- `code(E)`, the result code of a decode failure (R104). -/
def errorStatus : DecodeError → Status
  | .truncated _ => .truncated
  | .unsupportedVersion _ => .unsupportedVersion
  | .invalidAddress _ => .invalidAddress
  | .inconsistentLength _ => .inconsistentLength

/-- The byte offset a decode failure records (R104). -/
def errorOffset : DecodeError → Nat
  | .truncated off => off
  | .unsupportedVersion off => off
  | .invalidAddress off => off
  | .inconsistentLength off => off

/-- Failure entry, `raise E(off)`: `STATUS`, `ERR_OFFSET`, `STATE <- Failed`, and nothing else (R110). -/
def failureEntry (e : DecodeError) (s : State) : State :=
  (s.setResult (errorStatus e) (errorOffset e)).setStage .failed

/-- Every register at its reset value; the inputs and the host's coming events as they are (R25). -/
def clearRegisters (s : State) : State :=
  (State.reset.setInput s.buf s.len).setHost s.host

/-- Reset (R118): every register to its value of R25, `STATE = Idle`; a transaction in progress is abandoned. -/
def hardReset (s : State) : State := clearRegisters s

/-- An accepted request (R89): the only way out of `Done` and `Failed`. Every register takes its reset value, `L` is taken from
`len`, `BUF` is the frame the host presents, and `STATE <- Start`. -/
def acceptRequest (frame : List Byte) (s : State) : State :=
  ((clearRegisters s).setInput (Memory.ofBytes frame) frame.length).setStage .start

/-- An accepted request under the parameters `cfg`: the host presents no buffer longer than `LEN_MAX`, so such a term is refused
at the boundary (R7, R14; assumption log 23). -/
def takeRequest (cfg : Config) (frame : List Byte) (s : State) : Host.Outcome State Fault Refusal :=
  if (HostEvent.request frame).wf cfg then .next (acceptRequest frame s) else .refused (.lenMax frame.length)

/-- The states in which a request is accepted: `Idle`, `Done` and `Failed` (R89, R122). -/
def Stage.waiting : Stage → Bool
  | .idle => true
  | .start => false
  | .frameControlDecoded => false
  | .addressesDecoded => false
  | .sequenceControlResolved => false
  | .address4Resolved => false
  | .qosResolved => false
  | .htResolved => false
  | .bodyResolved => false
  | .integrityFieldRead => false
  | .done => true
  | .failed => true

/-- The 4-bit code of a `STATE` value (R16). -/
def Stage.code : Stage → BitVec 4
  | .idle => 0
  | .start => 1
  | .frameControlDecoded => 2
  | .addressesDecoded => 3
  | .sequenceControlResolved => 4
  | .address4Resolved => 5
  | .qosResolved => 6
  | .htResolved => 7
  | .bodyResolved => 8
  | .integrityFieldRead => 9
  | .done => 10
  | .failed => 11

/-- The 3-bit code of a `STATUS` value (R104). -/
def Status.code : Status → BitVec 3
  | .ok => 0
  | .truncated => 1
  | .unsupportedVersion => 2
  | .invalidAddress => 3
  | .inconsistentLength => 4

/-- `DONE`: 1 exactly when `STATE` is `Done` or `Failed` (R23). -/
def State.done (s : State) : Bool :=
  match s.stage with
  | .idle => false
  | .start => false
  | .frameControlDecoded => false
  | .addressesDecoded => false
  | .sequenceControlResolved => false
  | .address4Resolved => false
  | .qosResolved => false
  | .htResolved => false
  | .bodyResolved => false
  | .integrityFieldRead => false
  | .done => true
  | .failed => true

/-- What the host's ports carry in this step: the oldest event, no signal when there is none (assumption log 3). -/
def State.hostNow (s : State) : HostEvent := s.host.headD .quiet

/-- The state with this step's event sampled. -/
def State.sampled (s : State) : State := s.setHost s.host.tail

end Sys2Proof.Machine
end

