-- ==== Sys2Proof/Machine/Flags.lean ====
section
/-! DEFINITION. What the Frame Control registers say: the eight flags (R64), the classification (R65 to R70), the presence
predicates (R74, R78, R80, R82), the roles (R77), the offsets they fix (R43), and this hardware's parameters (R7). -/

namespace Sys2Proof.Machine

/-! The eight flags, `FC_FLAGS[0]` to `FC_FLAGS[7]` (R18, R64). -/

def toDs (fc : FrameControl) : Bool := fc.flags.getLsbD 0
def fromDs (fc : FrameControl) : Bool := fc.flags.getLsbD 1
/-- Read by no rule of the decoder (R76). -/
def moreFragments (fc : FrameControl) : Bool := fc.flags.getLsbD 2
/-- Read by no rule of the decoder (R84). -/
def retry (fc : FrameControl) : Bool := fc.flags.getLsbD 3
/-- Read by no rule of the decoder (R84). -/
def powerMgmt (fc : FrameControl) : Bool := fc.flags.getLsbD 4
/-- Read by no rule of the decoder (R84). -/
def moreData (fc : FrameControl) : Bool := fc.flags.getLsbD 5
/-- The flag `protected`. Read by no rule of the decoder (R84). -/
def protectedFlag (fc : FrameControl) : Bool := fc.flags.getLsbD 6
def order (fc : FrameControl) : Bool := fc.flags.getLsbD 7

/-- `FAMILY`, by the type code (R65). -/
def family (fc : FrameControl) : Family :=
  match fc.type.getLsbD 1, fc.type.getLsbD 0 with
  | false, false => .control
  | false, true => .management
  | true, false => .data
  | true, true => .extension

/-- The family's 2-bit output code, equal to the type code (R19). -/
def familyCode : Family → BitVec 2
  | .control => 0
  | .management => 1
  | .data => 2
  | .extension => 3

/-- `CONTROL_TABLE` (R66). The codes are general knowledge adopted by D7 (assumption log 9). -/
def controlTable : List ControlSubtype :=
  [.reserved 0x0, .reserved 0x1, .trigger, .reserved 0x3,
   .beamformingReportPoll, .vhtNdpAnnouncement, .controlFrameExtension, .controlWrapper,
   .blockAckRequest, .blockAck, .psPoll, .rts,
   .cts, .ack, .cfEnd, .cfEndCfAck]

/-- `MANAGEMENT_TABLE` (R67). The codes are general knowledge adopted by D7 (assumption log 9). -/
def managementTable : List ManagementSubtype :=
  [.associationRequest, .associationResponse, .reassociationRequest, .reassociationResponse,
   .probeRequest, .probeResponse, .timingAdvertisement, .reserved 0x7,
   .beacon, .atim, .disassociation, .authentication,
   .deauthentication, .action, .actionNoAck, .reserved 0xF]

/-- The Data subtype bits (R68). -/
def dataSubtype (code : BitVec 4) : DataSubtype :=
  { ack := code.getLsbD 0
    poll := code.getLsbD 1
    null := code.getLsbD 2
    qos := code.getLsbD 3
    hasData := !code.getLsbD 2 }

/-- The Extension subtype: only code 0 is assigned (R69). -/
def extensionSubtype (code : BitVec 4) : ExtensionSubtype :=
  if code = 0 then .dmgBeacon else .reserved code

/-- `SUBKIND`, by the family and the subtype code (R19, R66 to R69). The tables have sixteen entries, so the default is
never taken. -/
def subkind (fc : FrameControl) : Subkind :=
  match family fc with
  | .control => .control (controlTable.getD fc.subtype.toNat (.reserved fc.subtype))
  | .management => .management (managementTable.getD fc.subtype.toNat (.reserved fc.subtype))
  | .data => .data (dataSubtype fc.subtype)
  | .extension => .extension (extensionSubtype fc.subtype)

/-- `SUB_RESERVED`: 1 exactly when `SUBKIND` is `Reserved(_)` (R19). -/
def subReserved (k : Subkind) : Bool :=
  match k with
  | .control (.reserved _) => true
  | .management (.reserved _) => true
  | .extension (.reserved _) => true
  | _ => false

/-- The five Data bits, reported for Data frames (R19). -/
def dataBits (k : Subkind) : Option DataSubtype :=
  match k with
  | .data d => some d
  | .control _ => none
  | .management _ => none
  | .extension _ => none

/-- The subtype bit `qos`, `FC_SUBTYPE[3]` (R68, R80). -/
def qosBit (fc : FrameControl) : Bool := fc.subtype.getLsbD 3

/-- `P_SC`: Sequence Control is present for Management and Data frames (R78). -/
def pSc (fc : FrameControl) : Bool := family fc == .management || family fc == .data

/-- `P_A4`: Address4 is present if and only if both DS flags are set, in every family (R74). -/
def pA4 (fc : FrameControl) : Bool := toDs fc && fromDs fc

/-- `P_QOS`: QoS Control is present for Data frames with the `qos` bit (R80). -/
def pQos (fc : FrameControl) : Bool := family fc == .data && qosBit fc

/-- The predicate of §4.7, this hardware's `HT_PRESENT` (R82). -/
def htPresentDefault (fc : FrameControl) : Bool :=
  order fc &&
    ((family fc == .data && qosBit fc) ||
     (family fc == .management &&
       (subkind fc == .management .action || subkind fc == .management .actionNoAck)))

/-- `P_HT`, the parameter `HT_PRESENT` of the decoded Frame Control (R82). -/
def pHt (cfg : Config) (fc : FrameControl) : Bool := cfg.htPresent fc

/-- The parameters of this hardware: no bound on L, every address accepted, the §4.7 predicate (R7; assumption log 8). -/
def hardware : Config :=
  { lenMax := none
    addrValid := fun _ => true
    htPresent := htPresentDefault }

/-! The role masks (R22). -/

def roleRA : BitVec 5 := 0b00001
def roleTA : BitVec 5 := 0b00010
def roleDA : BitVec 5 := 0b00100
def roleSA : BitVec 5 := 0b01000
def roleBSSID : BitVec 5 := 0b10000

/-- `ROLE_TABLE[(to_ds, from_ds)]`, for every family (R77). -/
def roleTable (fc : FrameControl) : Roles :=
  match toDs fc, fromDs fc with
  | false, false => { role1 := roleRA ||| roleDA, role2 := roleTA ||| roleSA, role3 := roleBSSID, role4 := 0 }
  | false, true => { role1 := roleRA ||| roleDA, role2 := roleTA ||| roleBSSID, role3 := roleSA, role4 := 0 }
  | true, false => { role1 := roleRA ||| roleBSSID, role2 := roleTA ||| roleSA, role3 := roleDA, role4 := 0 }
  | true, true => { role1 := roleRA, role2 := roleTA, role3 := roleDA, role4 := roleSA }

/-- The bytes a field takes: its length when it is present, else none (R43). -/
def present (p : Bool) (len : Nat) : Nat := if p then len else 0

/-- `off_A4 = 22 + 2*sc` (R43). -/
def offA4 (fc : FrameControl) : Nat := Config.fixedHdrLen + present (pSc fc) Config.scLen

/-- `off_QOS = 22 + 2*sc + 6*a4` (R43). -/
def offQos (fc : FrameControl) : Nat := offA4 fc + present (pA4 fc) Config.addrLen

/-- `off_HT = 22 + 2*sc + 6*a4 + 2*q` (R43). -/
def offHt (fc : FrameControl) : Nat := offQos fc + present (pQos fc) Config.qosLen

/-- `H = 22 + 2*sc + 6*a4 + 2*q + 4*ht`, the header length (R43). -/
def headerLen (cfg : Config) (fc : FrameControl) : Nat := offHt fc + present (pHt cfg fc) Config.htLen

end Sys2Proof.Machine
end

