-- ==== Sys2Proof/Machine/Operands.lean ====
section
/-! DEFINITION. The fields of the frame, each read at the cursor into its registers by the pseudocode of its rule, and the
single transition of each FrameAssembler state (R88). A frame class runs these with its own Frame Control. -/

namespace Sys2Proof.Machine

/-- Frame Control as one 16-bit value, `FCW` (R62): the first read of a transaction, issued while the class is not yet known. -/
def readFrameControl (s : State) : Res (BitVec 16) :=
  (byteAlign s).andThen fun _ s =>
  (takeBits 16 s).andThen fun fcw s =>
  (byteAlign s).andThen fun _ s => .ok fcw s

/-- The rest of the Frame Control decode (R62): the registers, then the version check (R63, offset 0 by D13). -/
def writeFrameControl (fc : FrameControl) (s : State) : Res Unit :=
  if fc.version = Config.versionSupported then .ok () (s.setFc fc)
  else .raised (.unsupportedVersion 0) (s.setFc fc)

/-- Duration/ID (R71). -/
def readDuration (s : State) : Res Unit :=
  (readU16 s).andThen fun v s => .ok () (s.setFields { s.fields with durationId := v })

/-- Six bytes and the construction check: `Truncated` before `InvalidAddress`, both with the field's start (R72, R73, R109). -/
def readAddress (cfg : Config) (s : State) : Res HwAddress :=
  (takeBytes 6 s).andThen fun a t =>
    if cfg.addrValid a then .ok a t else .raised (.invalidAddress s.cur.byte) t

/-- Address1 (R72). -/
def readAddr1 (cfg : Config) (s : State) : Res Unit :=
  (readAddress cfg s).andThen fun a s => .ok () (s.setFields { s.fields with addr1 := a })

/-- Address2 (R72). -/
def readAddr2 (cfg : Config) (s : State) : Res Unit :=
  (readAddress cfg s).andThen fun a s => .ok () (s.setFields { s.fields with addr2 := a })

/-- Address3 (R72). -/
def readAddr3 (cfg : Config) (s : State) : Res Unit :=
  (readAddress cfg s).andThen fun a s => .ok () (s.setFields { s.fields with addr3 := a })

/-- Duration/ID, then Address1, Address2 and Address3 (R91). -/
def readAddresses (cfg : Config) (s : State) : Res Unit :=
  (readDuration s).andThen fun _ s =>
  (readAddr1 cfg s).andThen fun _ s =>
  (readAddr2 cfg s).andThen fun _ s => readAddr3 cfg s

/-- Sequence Control when `P_SC` holds: 4 bits, then 12 bits (R79). -/
def readSequence (fc : FrameControl) (s : State) : Res Unit :=
  if pSc fc then
    (byteAlign s).andThen fun _ s =>
    (takeBits 4 s).andThen fun frag s =>
    (takeBits 12 (s.setFields { s.fields with scFrag := frag })).andThen fun seq s =>
    (byteAlign (s.setFields { s.fields with scSeq := seq })).andThen fun _ s =>
    .ok () (s.setFields { s.fields with scValid := true })
  else .ok () (s.setFields { s.fields with scValid := false })

/-- Address4 when `P_A4` holds (R75). -/
def readAddr4 (cfg : Config) (fc : FrameControl) (s : State) : Res Unit :=
  if pA4 fc then
    (readAddress cfg s).andThen fun a s => .ok () (s.setFields { s.fields with addr4 := a, addr4Valid := true })
  else .ok () (s.setFields { s.fields with addr4Valid := false })

/-- QoS Control when `P_QOS` holds (R81). -/
def readQos (fc : FrameControl) (s : State) : Res Unit :=
  if pQos fc then
    (readU16 s).andThen fun v s => .ok () (s.setFields { s.fields with qos := v, qosValid := true })
  else .ok () (s.setFields { s.fields with qosValid := false })

/-- HT Control when `P_HT` holds (R83). -/
def readHt (cfg : Config) (fc : FrameControl) (s : State) : Res Unit :=
  if pHt cfg fc then
    (readU32 s).andThen fun v s => .ok () (s.setFields { s.fields with ht := v, htValid := true })
  else .ok () (s.setFields { s.fields with htValid := false })

/-- The body length `L - H - 4`, computed in the integers and checked before it is used (R10, R85). -/
def resolveBodyLength (s : State) : Res Nat :=
  (byteAlign s).andThen fun _ s =>
    let t := s.setFields { s.fields with hdrLen := s.cur.byte }
    let n : Int := (s.len : Int) - (s.cur.byte : Int) - (Config.fcsLen : Int)
    if n < 0 then .raised (.truncated s.cur.byte) t else .ok n.toNat t

/-- The body length check (R85), then the body output: a reference into the buffer, and the body skipped unread (R86). -/
def resolveBody (s : State) : Res Unit :=
  (resolveBodyLength s).andThen fun n s =>
    skipBytes n (s.setFields { s.fields with bodyOff := s.fields.hdrLen, bodyLen := n })

/-- The integrity field, opaque and not verified (R87). -/
def readIntegrity (s : State) : Res Unit :=
  (readU32 s).andThen fun v s => .ok () (s.setFields { s.fields with fcs := v })

/-- The end of a transition: the next `STATE` when its action ended with a value (R90 to R97), failure entry when it raised
(R99, R110). -/
def settle (next : Stage) (r : Res Unit) : Host.Outcome State Fault Refusal :=
  match r with
  | .ok _ s => .next (s.setStage next)
  | .raised e s => .next (failureEntry e s)
  | .fault f => .fault f
  | .refused r => .refused r

/-- `IntegrityFieldRead -> Done` (R98). The roles are written here, where they become part of the result (assumption log 6). -/
def finish (fc : FrameControl) (s : State) : State :=
  ((s.setRoles (roleTable fc)).setResult .ok 0).setStage .done

/-- The single transition of the current `STATE` (R88), for a frame whose decoded Frame Control is `fc`. From `Start` the two
Frame Control bytes have just been read (Machine/Fetch.lean). In `Idle`, `Done` and `Failed` there is no transition: only a
request leaves them (R16, R89), so the state stays. -/
def transition (cfg : Config) (fc : FrameControl) (s : State) : Host.Outcome State Fault Refusal :=
  match s.stage with
  | .idle => .next s
  | .start => settle .frameControlDecoded (writeFrameControl fc s)
  | .frameControlDecoded => settle .addressesDecoded (readAddresses cfg s)
  | .addressesDecoded => settle .sequenceControlResolved (readSequence fc s)
  | .sequenceControlResolved => settle .address4Resolved (readAddr4 cfg fc s)
  | .address4Resolved => settle .qosResolved (readQos fc s)
  | .qosResolved => settle .htResolved (readHt cfg fc s)
  | .htResolved => settle .bodyResolved (resolveBody s)
  | .bodyResolved => settle .integrityFieldRead (readIntegrity s)
  | .integrityFieldRead => .next (finish fc s)
  | .done => .next s
  | .failed => .next s

end Sys2Proof.Machine
end

