-- ==== Sys2Proof/Machine/Control.lean ====
section
/-! DEFINITION. The sixteen Control frame classes (R66): Address1 to Address3 always, no Sequence Control, QoS Control or HT Control.
Each meaning is the transition of the current `STATE` (R88) with the Frame Control of its row, on this hardware. -/

namespace Sys2Proof.Machine

/-- `CTL_RESERVED_0`: Control subtype 0x0, `Reserved(0x0)`; H = 22 + 6*a4 (R52, R66). -/
def execCtlReserved0 (flags : Byte) (s : State) : Host.Outcome State Fault Refusal :=
  transition hardware { version := 0, type := 0, subtype := 0x0, flags := flags } s

/-- `CTL_RESERVED_1`: Control subtype 0x1, `Reserved(0x1)`; H = 22 + 6*a4 (R52, R66). -/
def execCtlReserved1 (flags : Byte) (s : State) : Host.Outcome State Fault Refusal :=
  transition hardware { version := 0, type := 0, subtype := 0x1, flags := flags } s

/-- `CTL_TRIGGER`: Control subtype 0x2, `Trigger`; H = 22 + 6*a4 (R52, R66). -/
def execCtlTrigger (flags : Byte) (s : State) : Host.Outcome State Fault Refusal :=
  transition hardware { version := 0, type := 0, subtype := 0x2, flags := flags } s

/-- `CTL_RESERVED_3`: Control subtype 0x3, `Reserved(0x3)`; H = 22 + 6*a4 (R52, R66). -/
def execCtlReserved3 (flags : Byte) (s : State) : Host.Outcome State Fault Refusal :=
  transition hardware { version := 0, type := 0, subtype := 0x3, flags := flags } s

/-- `CTL_BF_REPORT_POLL`: Control subtype 0x4, `BeamformingReportPoll`; H = 22 + 6*a4 (R52, R66). -/
def execCtlBfReportPoll (flags : Byte) (s : State) : Host.Outcome State Fault Refusal :=
  transition hardware { version := 0, type := 0, subtype := 0x4, flags := flags } s

/-- `CTL_VHT_NDP_ANNOUNCEMENT`: Control subtype 0x5, `VhtNdpAnnouncement`; H = 22 + 6*a4 (R52, R66). -/
def execCtlVhtNdpAnnouncement (flags : Byte) (s : State) : Host.Outcome State Fault Refusal :=
  transition hardware { version := 0, type := 0, subtype := 0x5, flags := flags } s

/-- `CTL_FRAME_EXTENSION`: Control subtype 0x6, `ControlFrameExtension`; H = 22 + 6*a4 (R52, R66). -/
def execCtlFrameExtension (flags : Byte) (s : State) : Host.Outcome State Fault Refusal :=
  transition hardware { version := 0, type := 0, subtype := 0x6, flags := flags } s

/-- `CTL_WRAPPER`: Control subtype 0x7, `ControlWrapper`; H = 22 + 6*a4 (R52, R66). -/
def execCtlWrapper (flags : Byte) (s : State) : Host.Outcome State Fault Refusal :=
  transition hardware { version := 0, type := 0, subtype := 0x7, flags := flags } s

/-- `CTL_BLOCK_ACK_REQ`: Control subtype 0x8, `BlockAckRequest`; H = 22 + 6*a4 (R52, R66). -/
def execCtlBlockAckReq (flags : Byte) (s : State) : Host.Outcome State Fault Refusal :=
  transition hardware { version := 0, type := 0, subtype := 0x8, flags := flags } s

/-- `CTL_BLOCK_ACK`: Control subtype 0x9, `BlockAck`; H = 22 + 6*a4 (R52, R66). -/
def execCtlBlockAck (flags : Byte) (s : State) : Host.Outcome State Fault Refusal :=
  transition hardware { version := 0, type := 0, subtype := 0x9, flags := flags } s

/-- `CTL_PS_POLL`: Control subtype 0xA, `PsPoll`; H = 22 + 6*a4 (R52, R66). -/
def execCtlPsPoll (flags : Byte) (s : State) : Host.Outcome State Fault Refusal :=
  transition hardware { version := 0, type := 0, subtype := 0xA, flags := flags } s

/-- `CTL_RTS`: Control subtype 0xB, `Rts`; H = 22 + 6*a4 (R52, R66). -/
def execCtlRts (flags : Byte) (s : State) : Host.Outcome State Fault Refusal :=
  transition hardware { version := 0, type := 0, subtype := 0xB, flags := flags } s

/-- `CTL_CTS`: Control subtype 0xC, `Cts`; H = 22 + 6*a4 (R52, R66). -/
def execCtlCts (flags : Byte) (s : State) : Host.Outcome State Fault Refusal :=
  transition hardware { version := 0, type := 0, subtype := 0xC, flags := flags } s

/-- `CTL_ACK`: Control subtype 0xD, `Ack`; H = 22 + 6*a4 (R52, R66). -/
def execCtlAck (flags : Byte) (s : State) : Host.Outcome State Fault Refusal :=
  transition hardware { version := 0, type := 0, subtype := 0xD, flags := flags } s

/-- `CTL_CF_END`: Control subtype 0xE, `CfEnd`; H = 22 + 6*a4 (R52, R66). -/
def execCtlCfEnd (flags : Byte) (s : State) : Host.Outcome State Fault Refusal :=
  transition hardware { version := 0, type := 0, subtype := 0xE, flags := flags } s

/-- `CTL_CF_END_CF_ACK`: Control subtype 0xF, `CfEndCfAck`; H = 22 + 6*a4 (R52, R66). -/
def execCtlCfEndCfAck (flags : Byte) (s : State) : Host.Outcome State Fault Refusal :=
  transition hardware { version := 0, type := 0, subtype := 0xF, flags := flags } s

end Sys2Proof.Machine
end

