-- ==== Sys2Proof/Machine/Data.lean ====
section
/-! DEFINITION. The sixteen Data frame classes (R68): Sequence Control always, QoS Control with the `qos` bit, HT Control with `qos` and
`order` (R78, R80, R82).
Each meaning is the transition of the current `STATE` (R88) with the Frame Control of its row, on this hardware. -/

namespace Sys2Proof.Machine

/-- `DATA`: subtype 0x0, no Data bit set; H = 24 + 6*a4 (R52, R68). -/
def execData (flags : Byte) (s : State) : Host.Outcome State Fault Refusal :=
  transition hardware { version := 0, type := 2, subtype := 0x0, flags := flags } s

/-- `DATA+ACK`: subtype 0x1, the bits ack set; H = 24 + 6*a4 (R52, R68). -/
def execDataAck (flags : Byte) (s : State) : Host.Outcome State Fault Refusal :=
  transition hardware { version := 0, type := 2, subtype := 0x1, flags := flags } s

/-- `DATA+POLL`: subtype 0x2, the bits poll set; H = 24 + 6*a4 (R52, R68). -/
def execDataPoll (flags : Byte) (s : State) : Host.Outcome State Fault Refusal :=
  transition hardware { version := 0, type := 2, subtype := 0x2, flags := flags } s

/-- `DATA+ACK+POLL`: subtype 0x3, the bits ack, poll set; H = 24 + 6*a4 (R52, R68). -/
def execDataAckPoll (flags : Byte) (s : State) : Host.Outcome State Fault Refusal :=
  transition hardware { version := 0, type := 2, subtype := 0x3, flags := flags } s

/-- `DATA+NULL`: subtype 0x4, the bits null set; H = 24 + 6*a4 (R52, R68). -/
def execDataNull (flags : Byte) (s : State) : Host.Outcome State Fault Refusal :=
  transition hardware { version := 0, type := 2, subtype := 0x4, flags := flags } s

/-- `DATA+ACK+NULL`: subtype 0x5, the bits ack, null set; H = 24 + 6*a4 (R52, R68). -/
def execDataAckNull (flags : Byte) (s : State) : Host.Outcome State Fault Refusal :=
  transition hardware { version := 0, type := 2, subtype := 0x5, flags := flags } s

/-- `DATA+POLL+NULL`: subtype 0x6, the bits poll, null set; H = 24 + 6*a4 (R52, R68). -/
def execDataPollNull (flags : Byte) (s : State) : Host.Outcome State Fault Refusal :=
  transition hardware { version := 0, type := 2, subtype := 0x6, flags := flags } s

/-- `DATA+ACK+POLL+NULL`: subtype 0x7, the bits ack, poll, null set; H = 24 + 6*a4 (R52, R68). -/
def execDataAckPollNull (flags : Byte) (s : State) : Host.Outcome State Fault Refusal :=
  transition hardware { version := 0, type := 2, subtype := 0x7, flags := flags } s

/-- `DATA+QOS`: subtype 0x8, the bits qos set; H = 26 + 6*a4 + 4*order (R52, R68). -/
def execDataQos (flags : Byte) (s : State) : Host.Outcome State Fault Refusal :=
  transition hardware { version := 0, type := 2, subtype := 0x8, flags := flags } s

/-- `DATA+ACK+QOS`: subtype 0x9, the bits ack, qos set; H = 26 + 6*a4 + 4*order (R52, R68). -/
def execDataAckQos (flags : Byte) (s : State) : Host.Outcome State Fault Refusal :=
  transition hardware { version := 0, type := 2, subtype := 0x9, flags := flags } s

/-- `DATA+POLL+QOS`: subtype 0xA, the bits poll, qos set; H = 26 + 6*a4 + 4*order (R52, R68). -/
def execDataPollQos (flags : Byte) (s : State) : Host.Outcome State Fault Refusal :=
  transition hardware { version := 0, type := 2, subtype := 0xA, flags := flags } s

/-- `DATA+ACK+POLL+QOS`: subtype 0xB, the bits ack, poll, qos set; H = 26 + 6*a4 + 4*order (R52, R68). -/
def execDataAckPollQos (flags : Byte) (s : State) : Host.Outcome State Fault Refusal :=
  transition hardware { version := 0, type := 2, subtype := 0xB, flags := flags } s

/-- `DATA+NULL+QOS`: subtype 0xC, the bits null, qos set; H = 26 + 6*a4 + 4*order (R52, R68). -/
def execDataNullQos (flags : Byte) (s : State) : Host.Outcome State Fault Refusal :=
  transition hardware { version := 0, type := 2, subtype := 0xC, flags := flags } s

/-- `DATA+ACK+NULL+QOS`: subtype 0xD, the bits ack, null, qos set; H = 26 + 6*a4 + 4*order (R52, R68). -/
def execDataAckNullQos (flags : Byte) (s : State) : Host.Outcome State Fault Refusal :=
  transition hardware { version := 0, type := 2, subtype := 0xD, flags := flags } s

/-- `DATA+POLL+NULL+QOS`: subtype 0xE, the bits poll, null, qos set; H = 26 + 6*a4 + 4*order (R52, R68). -/
def execDataPollNullQos (flags : Byte) (s : State) : Host.Outcome State Fault Refusal :=
  transition hardware { version := 0, type := 2, subtype := 0xE, flags := flags } s

/-- `DATA+ACK+POLL+NULL+QOS`: subtype 0xF, the bits ack, poll, null, qos set; H = 26 + 6*a4 + 4*order (R52, R68). -/
def execDataAckPollNullQos (flags : Byte) (s : State) : Host.Outcome State Fault Refusal :=
  transition hardware { version := 0, type := 2, subtype := 0xF, flags := flags } s

end Sys2Proof.Machine
end

