-- ==== Sys2Proof/Machine/Extension.lean ====
section
/-! DEFINITION. The sixteen Extension frame classes (R69): no Sequence Control, QoS Control or HT Control.
Each meaning is the transition of the current `STATE` (R88) with the Frame Control of its row, on this hardware. -/

namespace Sys2Proof.Machine

/-- `EXT_DMG_BEACON`: Extension subtype 0x0, `DmgBeacon`; H = 22 + 6*a4 (R52, R69). -/
def execExtDmgBeacon (flags : Byte) (s : State) : Host.Outcome State Fault Refusal :=
  transition hardware { version := 0, type := 3, subtype := 0x0, flags := flags } s

/-- `EXT_RESERVED_1`: Extension subtype 0x1, `Reserved(0x1)`; H = 22 + 6*a4 (R52, R69). -/
def execExtReserved1 (flags : Byte) (s : State) : Host.Outcome State Fault Refusal :=
  transition hardware { version := 0, type := 3, subtype := 0x1, flags := flags } s

/-- `EXT_RESERVED_2`: Extension subtype 0x2, `Reserved(0x2)`; H = 22 + 6*a4 (R52, R69). -/
def execExtReserved2 (flags : Byte) (s : State) : Host.Outcome State Fault Refusal :=
  transition hardware { version := 0, type := 3, subtype := 0x2, flags := flags } s

/-- `EXT_RESERVED_3`: Extension subtype 0x3, `Reserved(0x3)`; H = 22 + 6*a4 (R52, R69). -/
def execExtReserved3 (flags : Byte) (s : State) : Host.Outcome State Fault Refusal :=
  transition hardware { version := 0, type := 3, subtype := 0x3, flags := flags } s

/-- `EXT_RESERVED_4`: Extension subtype 0x4, `Reserved(0x4)`; H = 22 + 6*a4 (R52, R69). -/
def execExtReserved4 (flags : Byte) (s : State) : Host.Outcome State Fault Refusal :=
  transition hardware { version := 0, type := 3, subtype := 0x4, flags := flags } s

/-- `EXT_RESERVED_5`: Extension subtype 0x5, `Reserved(0x5)`; H = 22 + 6*a4 (R52, R69). -/
def execExtReserved5 (flags : Byte) (s : State) : Host.Outcome State Fault Refusal :=
  transition hardware { version := 0, type := 3, subtype := 0x5, flags := flags } s

/-- `EXT_RESERVED_6`: Extension subtype 0x6, `Reserved(0x6)`; H = 22 + 6*a4 (R52, R69). -/
def execExtReserved6 (flags : Byte) (s : State) : Host.Outcome State Fault Refusal :=
  transition hardware { version := 0, type := 3, subtype := 0x6, flags := flags } s

/-- `EXT_RESERVED_7`: Extension subtype 0x7, `Reserved(0x7)`; H = 22 + 6*a4 (R52, R69). -/
def execExtReserved7 (flags : Byte) (s : State) : Host.Outcome State Fault Refusal :=
  transition hardware { version := 0, type := 3, subtype := 0x7, flags := flags } s

/-- `EXT_RESERVED_8`: Extension subtype 0x8, `Reserved(0x8)`; H = 22 + 6*a4 (R52, R69). -/
def execExtReserved8 (flags : Byte) (s : State) : Host.Outcome State Fault Refusal :=
  transition hardware { version := 0, type := 3, subtype := 0x8, flags := flags } s

/-- `EXT_RESERVED_9`: Extension subtype 0x9, `Reserved(0x9)`; H = 22 + 6*a4 (R52, R69). -/
def execExtReserved9 (flags : Byte) (s : State) : Host.Outcome State Fault Refusal :=
  transition hardware { version := 0, type := 3, subtype := 0x9, flags := flags } s

/-- `EXT_RESERVED_A`: Extension subtype 0xA, `Reserved(0xA)`; H = 22 + 6*a4 (R52, R69). -/
def execExtReservedA (flags : Byte) (s : State) : Host.Outcome State Fault Refusal :=
  transition hardware { version := 0, type := 3, subtype := 0xA, flags := flags } s

/-- `EXT_RESERVED_B`: Extension subtype 0xB, `Reserved(0xB)`; H = 22 + 6*a4 (R52, R69). -/
def execExtReservedB (flags : Byte) (s : State) : Host.Outcome State Fault Refusal :=
  transition hardware { version := 0, type := 3, subtype := 0xB, flags := flags } s

/-- `EXT_RESERVED_C`: Extension subtype 0xC, `Reserved(0xC)`; H = 22 + 6*a4 (R52, R69). -/
def execExtReservedC (flags : Byte) (s : State) : Host.Outcome State Fault Refusal :=
  transition hardware { version := 0, type := 3, subtype := 0xC, flags := flags } s

/-- `EXT_RESERVED_D`: Extension subtype 0xD, `Reserved(0xD)`; H = 22 + 6*a4 (R52, R69). -/
def execExtReservedD (flags : Byte) (s : State) : Host.Outcome State Fault Refusal :=
  transition hardware { version := 0, type := 3, subtype := 0xD, flags := flags } s

/-- `EXT_RESERVED_E`: Extension subtype 0xE, `Reserved(0xE)`; H = 22 + 6*a4 (R52, R69). -/
def execExtReservedE (flags : Byte) (s : State) : Host.Outcome State Fault Refusal :=
  transition hardware { version := 0, type := 3, subtype := 0xE, flags := flags } s

/-- `EXT_RESERVED_F`: Extension subtype 0xF, `Reserved(0xF)`; H = 22 + 6*a4 (R52, R69). -/
def execExtReservedF (flags : Byte) (s : State) : Host.Outcome State Fault Refusal :=
  transition hardware { version := 0, type := 3, subtype := 0xF, flags := flags } s

end Sys2Proof.Machine
end

