-- ==== Sys2Proof/Machine/Management.lean ====
section
/-! DEFINITION. The sixteen Management frame classes (R67): Sequence Control always, HT Control for Action and Action-No-Ack with
`order` (R78, R82).
Each meaning is the transition of the current `STATE` (R88) with the Frame Control of its row, on this hardware. -/

namespace Sys2Proof.Machine

/-- `MGT_ASSOC_REQ`: Management subtype 0x0, `AssociationRequest`; H = 24 + 6*a4 (R52, R67). -/
def execMgtAssocReq (flags : Byte) (s : State) : Host.Outcome State Fault Refusal :=
  transition hardware { version := 0, type := 1, subtype := 0x0, flags := flags } s

/-- `MGT_ASSOC_RESP`: Management subtype 0x1, `AssociationResponse`; H = 24 + 6*a4 (R52, R67). -/
def execMgtAssocResp (flags : Byte) (s : State) : Host.Outcome State Fault Refusal :=
  transition hardware { version := 0, type := 1, subtype := 0x1, flags := flags } s

/-- `MGT_REASSOC_REQ`: Management subtype 0x2, `ReassociationRequest`; H = 24 + 6*a4 (R52, R67). -/
def execMgtReassocReq (flags : Byte) (s : State) : Host.Outcome State Fault Refusal :=
  transition hardware { version := 0, type := 1, subtype := 0x2, flags := flags } s

/-- `MGT_REASSOC_RESP`: Management subtype 0x3, `ReassociationResponse`; H = 24 + 6*a4 (R52, R67). -/
def execMgtReassocResp (flags : Byte) (s : State) : Host.Outcome State Fault Refusal :=
  transition hardware { version := 0, type := 1, subtype := 0x3, flags := flags } s

/-- `MGT_PROBE_REQ`: Management subtype 0x4, `ProbeRequest`; H = 24 + 6*a4 (R52, R67). -/
def execMgtProbeReq (flags : Byte) (s : State) : Host.Outcome State Fault Refusal :=
  transition hardware { version := 0, type := 1, subtype := 0x4, flags := flags } s

/-- `MGT_PROBE_RESP`: Management subtype 0x5, `ProbeResponse`; H = 24 + 6*a4 (R52, R67). -/
def execMgtProbeResp (flags : Byte) (s : State) : Host.Outcome State Fault Refusal :=
  transition hardware { version := 0, type := 1, subtype := 0x5, flags := flags } s

/-- `MGT_TIMING_ADV`: Management subtype 0x6, `TimingAdvertisement`; H = 24 + 6*a4 (R52, R67). -/
def execMgtTimingAdv (flags : Byte) (s : State) : Host.Outcome State Fault Refusal :=
  transition hardware { version := 0, type := 1, subtype := 0x6, flags := flags } s

/-- `MGT_RESERVED_7`: Management subtype 0x7, `Reserved(0x7)`; H = 24 + 6*a4 (R52, R67). -/
def execMgtReserved7 (flags : Byte) (s : State) : Host.Outcome State Fault Refusal :=
  transition hardware { version := 0, type := 1, subtype := 0x7, flags := flags } s

/-- `MGT_BEACON`: Management subtype 0x8, `Beacon`; H = 24 + 6*a4 (R52, R67). -/
def execMgtBeacon (flags : Byte) (s : State) : Host.Outcome State Fault Refusal :=
  transition hardware { version := 0, type := 1, subtype := 0x8, flags := flags } s

/-- `MGT_ATIM`: Management subtype 0x9, `Atim`; H = 24 + 6*a4 (R52, R67). -/
def execMgtAtim (flags : Byte) (s : State) : Host.Outcome State Fault Refusal :=
  transition hardware { version := 0, type := 1, subtype := 0x9, flags := flags } s

/-- `MGT_DISASSOC`: Management subtype 0xA, `Disassociation`; H = 24 + 6*a4 (R52, R67). -/
def execMgtDisassoc (flags : Byte) (s : State) : Host.Outcome State Fault Refusal :=
  transition hardware { version := 0, type := 1, subtype := 0xA, flags := flags } s

/-- `MGT_AUTH`: Management subtype 0xB, `Authentication`; H = 24 + 6*a4 (R52, R67). -/
def execMgtAuth (flags : Byte) (s : State) : Host.Outcome State Fault Refusal :=
  transition hardware { version := 0, type := 1, subtype := 0xB, flags := flags } s

/-- `MGT_DEAUTH`: Management subtype 0xC, `Deauthentication`; H = 24 + 6*a4 (R52, R67). -/
def execMgtDeauth (flags : Byte) (s : State) : Host.Outcome State Fault Refusal :=
  transition hardware { version := 0, type := 1, subtype := 0xC, flags := flags } s

/-- `MGT_ACTION`: Management subtype 0xD, `Action`; H = 24 + 6*a4 + 4*order (R52, R67). -/
def execMgtAction (flags : Byte) (s : State) : Host.Outcome State Fault Refusal :=
  transition hardware { version := 0, type := 1, subtype := 0xD, flags := flags } s

/-- `MGT_ACTION_NO_ACK`: Management subtype 0xE, `ActionNoAck`; H = 24 + 6*a4 + 4*order (R52, R67). -/
def execMgtActionNoAck (flags : Byte) (s : State) : Host.Outcome State Fault Refusal :=
  transition hardware { version := 0, type := 1, subtype := 0xE, flags := flags } s

/-- `MGT_RESERVED_F`: Management subtype 0xF, `Reserved(0xF)`; H = 24 + 6*a4 (R52, R67). -/
def execMgtReservedF (flags : Byte) (s : State) : Host.Outcome State Fault Refusal :=
  transition hardware { version := 0, type := 1, subtype := 0xF, flags := flags } s

end Sys2Proof.Machine
end

