-- ==== Sys2Proof/Machine/UnsupportedVersion.lean ====
section
/-! DEFINITION. The three rows of the unsupported protocol versions (R63): the first transition raises `UnsupportedVersion(0)`.
Each meaning is the transition of the current `STATE` (R88) with the Frame Control of its row, on this hardware. -/

namespace Sys2Proof.Machine

/-- `UNSUPPORTED_VERSION_1`: protocol version 1, any type and subtype; `Err(UnsupportedVersion, 0)` from `Start` (R63, R106). -/
def execUnsupportedVersion1 (type : BitVec 2) (subtype : BitVec 4) (flags : Byte) (s : State) :
    Host.Outcome State Fault Refusal :=
  transition hardware { version := 1, type := type, subtype := subtype, flags := flags } s

/-- `UNSUPPORTED_VERSION_2`: protocol version 2, any type and subtype; `Err(UnsupportedVersion, 0)` from `Start` (R63, R106). -/
def execUnsupportedVersion2 (type : BitVec 2) (subtype : BitVec 4) (flags : Byte) (s : State) :
    Host.Outcome State Fault Refusal :=
  transition hardware { version := 2, type := type, subtype := subtype, flags := flags } s

/-- `UNSUPPORTED_VERSION_3`: protocol version 3, any type and subtype; `Err(UnsupportedVersion, 0)` from `Start` (R63, R106). -/
def execUnsupportedVersion3 (type : BitVec 2) (subtype : BitVec 4) (flags : Byte) (s : State) :
    Host.Outcome State Fault Refusal :=
  transition hardware { version := 3, type := type, subtype := subtype, flags := flags } s

end Sys2Proof.Machine
end

