-- ==== Sys2Proof/Machine/Dispatch.lean ====
section
/-! DEFINITION. One arm per frame class, each a direct call of its meaning. -/

namespace Sys2Proof.Machine

def exec (i : Instr) (s : State) : Host.Outcome State Fault Refusal :=
  match i with
  | .mgtAssocReq flags => Sys2Proof.Machine.execMgtAssocReq flags s
  | .mgtAssocResp flags => Sys2Proof.Machine.execMgtAssocResp flags s
  | .mgtReassocReq flags => Sys2Proof.Machine.execMgtReassocReq flags s
  | .mgtReassocResp flags => Sys2Proof.Machine.execMgtReassocResp flags s
  | .mgtProbeReq flags => Sys2Proof.Machine.execMgtProbeReq flags s
  | .mgtProbeResp flags => Sys2Proof.Machine.execMgtProbeResp flags s
  | .mgtTimingAdv flags => Sys2Proof.Machine.execMgtTimingAdv flags s
  | .mgtReserved7 flags => Sys2Proof.Machine.execMgtReserved7 flags s
  | .mgtBeacon flags => Sys2Proof.Machine.execMgtBeacon flags s
  | .mgtAtim flags => Sys2Proof.Machine.execMgtAtim flags s
  | .mgtDisassoc flags => Sys2Proof.Machine.execMgtDisassoc flags s
  | .mgtAuth flags => Sys2Proof.Machine.execMgtAuth flags s
  | .mgtDeauth flags => Sys2Proof.Machine.execMgtDeauth flags s
  | .mgtAction flags => Sys2Proof.Machine.execMgtAction flags s
  | .mgtActionNoAck flags => Sys2Proof.Machine.execMgtActionNoAck flags s
  | .mgtReservedF flags => Sys2Proof.Machine.execMgtReservedF flags s
  | .ctlReserved0 flags => Sys2Proof.Machine.execCtlReserved0 flags s
  | .ctlReserved1 flags => Sys2Proof.Machine.execCtlReserved1 flags s
  | .ctlTrigger flags => Sys2Proof.Machine.execCtlTrigger flags s
  | .ctlReserved3 flags => Sys2Proof.Machine.execCtlReserved3 flags s
  | .ctlBfReportPoll flags => Sys2Proof.Machine.execCtlBfReportPoll flags s
  | .ctlVhtNdpAnnouncement flags => Sys2Proof.Machine.execCtlVhtNdpAnnouncement flags s
  | .ctlFrameExtension flags => Sys2Proof.Machine.execCtlFrameExtension flags s
  | .ctlWrapper flags => Sys2Proof.Machine.execCtlWrapper flags s
  | .ctlBlockAckReq flags => Sys2Proof.Machine.execCtlBlockAckReq flags s
  | .ctlBlockAck flags => Sys2Proof.Machine.execCtlBlockAck flags s
  | .ctlPsPoll flags => Sys2Proof.Machine.execCtlPsPoll flags s
  | .ctlRts flags => Sys2Proof.Machine.execCtlRts flags s
  | .ctlCts flags => Sys2Proof.Machine.execCtlCts flags s
  | .ctlAck flags => Sys2Proof.Machine.execCtlAck flags s
  | .ctlCfEnd flags => Sys2Proof.Machine.execCtlCfEnd flags s
  | .ctlCfEndCfAck flags => Sys2Proof.Machine.execCtlCfEndCfAck flags s
  | .data flags => Sys2Proof.Machine.execData flags s
  | .dataAck flags => Sys2Proof.Machine.execDataAck flags s
  | .dataPoll flags => Sys2Proof.Machine.execDataPoll flags s
  | .dataAckPoll flags => Sys2Proof.Machine.execDataAckPoll flags s
  | .dataNull flags => Sys2Proof.Machine.execDataNull flags s
  | .dataAckNull flags => Sys2Proof.Machine.execDataAckNull flags s
  | .dataPollNull flags => Sys2Proof.Machine.execDataPollNull flags s
  | .dataAckPollNull flags => Sys2Proof.Machine.execDataAckPollNull flags s
  | .dataQos flags => Sys2Proof.Machine.execDataQos flags s
  | .dataAckQos flags => Sys2Proof.Machine.execDataAckQos flags s
  | .dataPollQos flags => Sys2Proof.Machine.execDataPollQos flags s
  | .dataAckPollQos flags => Sys2Proof.Machine.execDataAckPollQos flags s
  | .dataNullQos flags => Sys2Proof.Machine.execDataNullQos flags s
  | .dataAckNullQos flags => Sys2Proof.Machine.execDataAckNullQos flags s
  | .dataPollNullQos flags => Sys2Proof.Machine.execDataPollNullQos flags s
  | .dataAckPollNullQos flags => Sys2Proof.Machine.execDataAckPollNullQos flags s
  | .extDmgBeacon flags => Sys2Proof.Machine.execExtDmgBeacon flags s
  | .extReserved1 flags => Sys2Proof.Machine.execExtReserved1 flags s
  | .extReserved2 flags => Sys2Proof.Machine.execExtReserved2 flags s
  | .extReserved3 flags => Sys2Proof.Machine.execExtReserved3 flags s
  | .extReserved4 flags => Sys2Proof.Machine.execExtReserved4 flags s
  | .extReserved5 flags => Sys2Proof.Machine.execExtReserved5 flags s
  | .extReserved6 flags => Sys2Proof.Machine.execExtReserved6 flags s
  | .extReserved7 flags => Sys2Proof.Machine.execExtReserved7 flags s
  | .extReserved8 flags => Sys2Proof.Machine.execExtReserved8 flags s
  | .extReserved9 flags => Sys2Proof.Machine.execExtReserved9 flags s
  | .extReservedA flags => Sys2Proof.Machine.execExtReservedA flags s
  | .extReservedB flags => Sys2Proof.Machine.execExtReservedB flags s
  | .extReservedC flags => Sys2Proof.Machine.execExtReservedC flags s
  | .extReservedD flags => Sys2Proof.Machine.execExtReservedD flags s
  | .extReservedE flags => Sys2Proof.Machine.execExtReservedE flags s
  | .extReservedF flags => Sys2Proof.Machine.execExtReservedF flags s
  | .unsupportedVersion1 type subtype flags => Sys2Proof.Machine.execUnsupportedVersion1 type subtype flags s
  | .unsupportedVersion2 type subtype flags => Sys2Proof.Machine.execUnsupportedVersion2 type subtype flags s
  | .unsupportedVersion3 type subtype flags => Sys2Proof.Machine.execUnsupportedVersion3 type subtype flags s

end Sys2Proof.Machine
end

