-- ==== Sys2Proof/Machine/Fetch.lean ====
section
/-! DEFINITION. What one step adds around `exec`: sampling the host's ports, reading Frame Control in `Start`, and knowing the
frame class of the transaction in progress from the Frame Control registers. -/

namespace Sys2Proof.Machine

/-- The frame class that `FCW` selects (R44, R49). -/
def fetchedInstr (fcw : BitVec 16) : Instr := decodeFrameControl (FrameControl.ofWord fcw)

/-- The frame class of the transaction in progress: the Frame Control registers hold it once `Start` is passed (R17, R20). -/
def instrInProgress (s : State) : Instr := decodeFrameControl s.fc

/-- From `Start`, given what runs a frame class: Frame Control is read whole before it is judged, so a buffer of fewer than two bytes raises `Truncated(0)`
and no frame class is selected (R62, D12). -/
def fetchAndRun (run : Instr → State → Host.Outcome State Fault Refusal) (s : State) :
    Host.Outcome State Fault Refusal :=
  match readFrameControl s with
  | .ok fcw t => run (fetchedInstr fcw) t
  | .raised e t => .next (failureEntry e t)
  | .fault f => .fault f
  | .refused r => .refused r

/-- One transition of the state machine, given what runs a frame class (R88). -/
def advanceBy (run : Instr → State → Host.Outcome State Fault Refusal) (s : State) : Host.Outcome State Fault Refusal :=
  if s.stage = .start then fetchAndRun run s else run (instrInProgress s) s

/-- One transition of this hardware. -/
def advance (s : State) : Host.Outcome State Fault Refusal := advanceBy exec s

/-- One step under the parameters `cfg`, given the transition it takes: the host's event of this step is sampled, then reset
(R118), an accepted request (R89) or a transition (R88). A request while busy is ignored (R122); with no request, a waiting
decoder stays as it is. -/
def cycleBy (cfg : Config) (run : State → Host.Outcome State Fault Refusal) (s : State) : Host.Outcome State Fault Refusal :=
  match s.hostNow with
  | .reset => .next (hardReset s.sampled)
  | .request frame => if s.stage.waiting then takeRequest cfg frame s.sampled else run s.sampled
  | .quiet => if s.stage.waiting then .next s.sampled else run s.sampled

/-- One step of this hardware. -/
def cycle (s : State) : Host.Outcome State Fault Refusal := cycleBy hardware advance s

/-- The state in which the very next step reads these Frame Control bytes: they stand at offsets 0 and 1, `L` reaches them, the
cursor is at `(0, 0)`, `STATE = Start`, and the ports carry no signal in that step (assumption log 14). -/
def placeFrameControl (s : State) (fc0 fc1 : Byte) : State :=
  { s with
    stage := .start
    cur := Cursor.atByte 0
    buf := (s.buf.write 0 fc0).write 1 fc1
    len := max s.len Config.fcLen
    host := .quiet :: s.host }

/-- The same for the bytes of a table word. -/
def placeTableBytes (s : State) : List Byte → State
  | fc0 :: fc1 :: _ => placeFrameControl s fc0 fc1
  | [_] => s
  | [] => s

end Sys2Proof.Machine
end

