-- ==== Sys2Proof/Machine/Step.lean ====
section
/-! DEFINITION. The step of the machine, and the state in which the next step runs a given table word. -/

namespace Sys2Proof.Machine

/-- One step of the decoder (R88, R89, R118). -/
def step (s : State) : Host.Outcome State Fault Refusal := cycle s

/-- `s` with the table word's bytes where the next step reads Frame Control (assumption log 14). -/
def State.withFetchWord (s : State) (nbits w : Nat) : State := placeTableBytes s (tableBytes nbits w)

end Sys2Proof.Machine
end

