-- ==== Sys2Proof/Machine/Parameters.lean ====
section
/-! DEFINITION. The machine with the parameters of R7 as arguments: `LEN_MAX`, `ADDR_VALID` and `HT_PRESENT`. `exec`, `step` and
the core are these at this hardware's values, `hardware`. -/

namespace Sys2Proof.Machine

/-- `exec` under the parameters `cfg`: one transition for the frame class's own Frame Control (R88). -/
def execWith (cfg : Config) (i : Instr) (s : State) : Host.Outcome State Fault Refusal := transition cfg i.frameControl s

/-- One transition under the parameters `cfg` (R88). -/
def advanceWith (cfg : Config) (s : State) : Host.Outcome State Fault Refusal := advanceBy (execWith cfg) s

/-- `step` under the parameters `cfg` (R7). -/
def stepWith (cfg : Config) (s : State) : Host.Outcome State Fault Refusal := cycleBy cfg (advanceWith cfg) s

/-- The machine with the parameters `cfg` (R7). -/
def coreWith (cfg : Config) : Host.Core :=
  { State := State, Fault := Fault, Refusal := Refusal, step := stepWith cfg, reset := State.reset }

end Sys2Proof.Machine
end

