-- ==== Sys2Proof/Machine/Result.lean ====
section
/-! DEFINITION. What the host sees: the result of a transaction (R100, R111) and the output ports (R27, R120). An output the
host may not read has no value here. -/

namespace Sys2Proof.Machine

/-- The frame description of a successful decode (R100). The body is a reference into the buffer (R86). -/
structure Frame where
  version : BitVec 2
  family : Family
  subkind : Subkind
  flags : Byte
  durationId : BitVec 16
  address1 : HwAddress
  address2 : HwAddress
  address3 : HwAddress
  address4 : Option HwAddress
  sequenceControl : Option (BitVec 4 × BitVec 12)
  qosControl : Option (BitVec 16)
  htControl : Option (BitVec 32)
  bodyOff : Nat
  bodyLen : Nat
  integrityField : BitVec 32
  headerLen : Nat
  roles : Roles
deriving DecidableEq, Repr

/-- `Result<Frame, DecodeError>` (R27, R100). -/
inductive Result where
  | ok (f : Frame)
  | err (e : DecodeError)
deriving DecidableEq, Repr

/-- A field register is part of the result only where its valid bit is 1 (R21, R100). -/
def whenValid {α : Type} (valid : Bool) (v : α) : Option α := if valid then some v else none

/-- The `Frame` that the registers hold (R100). -/
def registersFrame (s : State) : Frame :=
  { version := s.fc.version
    family := family s.fc
    subkind := subkind s.fc
    flags := s.fc.flags
    durationId := s.fields.durationId
    address1 := s.fields.addr1
    address2 := s.fields.addr2
    address3 := s.fields.addr3
    address4 := whenValid s.fields.addr4Valid s.fields.addr4
    sequenceControl := whenValid s.fields.scValid (s.fields.scFrag, s.fields.scSeq)
    qosControl := whenValid s.fields.qosValid s.fields.qos
    htControl := whenValid s.fields.htValid s.fields.ht
    bodyOff := s.fields.bodyOff
    bodyLen := s.fields.bodyLen
    integrityField := s.fields.fcs
    headerLen := s.fields.hdrLen
    roles := s.roles }

/-- `STATUS` and `ERR_OFFSET` read as a result: `STATUS = 0` is `Ok(Frame)`, any other is `Err(kind, err_offset)` (R27). -/
def statusResult (s : State) : Result :=
  match s.status with
  | .ok => .ok (registersFrame s)
  | .truncated => .err (.truncated s.errOffset)
  | .unsupportedVersion => .err (.unsupportedVersion s.errOffset)
  | .invalidAddress => .err (.invalidAddress s.errOffset)
  | .inconsistentLength => .err (.inconsistentLength s.errOffset)

/-- The result of the transaction, once `DONE = 1` (R23, R120); after a failure the error and the offset alone (R111). -/
def State.result (s : State) : Option Result := if s.done then some (statusResult s) else none

/-- The frame outputs of the port list (R27), at their widths. -/
structure FramePorts where
  fcVersion : BitVec 2
  fcType : BitVec 2
  fcSubtype : BitVec 4
  fcFlags : Byte
  familyCode : BitVec 2
  subReserved : Bool
  dataBits : Option DataSubtype
  durationId : BitVec 16
  addr1 : HwAddress
  addr2 : HwAddress
  addr3 : HwAddress
  addr4Valid : Bool
  addr4 : Option HwAddress
  scValid : Bool
  scFrag : Option (BitVec 4)
  scSeq : Option (BitVec 12)
  qosValid : Bool
  qos : Option (BitVec 16)
  htValid : Bool
  ht : Option (BitVec 32)
  hdrLen : Nat
  bodyOff : Nat
  bodyLen : Nat
  fcs : BitVec 32
  roles : Roles
deriving DecidableEq, Repr

/-- The output ports (R27): `done` always, `status` and `err_offset` when `DONE = 1`, the frame outputs when also `STATUS = 0`
(R120). `none` is an output the host may not read (assumption log 7). -/
structure Ports where
  done : Bool
  status : Option (BitVec 3)
  errOffset : Option Nat
  frame : Option FramePorts
deriving DecidableEq, Repr

/-- The frame outputs that the registers drive (R27). -/
def registersPorts (s : State) : FramePorts :=
  { fcVersion := s.fc.version
    fcType := s.fc.type
    fcSubtype := s.fc.subtype
    fcFlags := s.fc.flags
    familyCode := familyCode (family s.fc)
    subReserved := subReserved (subkind s.fc)
    dataBits := dataBits (subkind s.fc)
    durationId := s.fields.durationId
    addr1 := s.fields.addr1
    addr2 := s.fields.addr2
    addr3 := s.fields.addr3
    addr4Valid := s.fields.addr4Valid
    addr4 := whenValid s.fields.addr4Valid s.fields.addr4
    scValid := s.fields.scValid
    scFrag := whenValid s.fields.scValid s.fields.scFrag
    scSeq := whenValid s.fields.scValid s.fields.scSeq
    qosValid := s.fields.qosValid
    qos := whenValid s.fields.qosValid s.fields.qos
    htValid := s.fields.htValid
    ht := whenValid s.fields.htValid s.fields.ht
    hdrLen := s.fields.hdrLen
    bodyOff := s.fields.bodyOff
    bodyLen := s.fields.bodyLen
    fcs := s.fields.fcs
    roles := s.roles }

/-- What the host reads from the ports (R27, R120). -/
def State.ports (s : State) : Ports :=
  { done := s.done
    status := if s.done then some s.status.code else none
    errOffset := if s.done then some s.errOffset else none
    frame := if s.done && s.status == .ok then some (registersPorts s) else none }

/-- The body bytes `BUF[BODY_OFF .. BODY_OFF+BODY_LEN)` that a result names (R21, R86), while the host keeps the buffer. -/
def State.body (s : State) : Vector Byte s.fields.bodyLen := s.buf.bytes s.fields.bodyOff s.fields.bodyLen

end Sys2Proof.Machine
end

