-- ==== Sys2Proof/Machine/FrameDecode.lean ====
section
/-! DEFINITION. `decode(BUF, L)` (R100) as a function of the buffer alone, from the offsets of R43 and the failures in the
order of R109, for any parameters (R7); and the transaction of the state machine for any parameters, to compare it with. -/

namespace Sys2Proof.Machine

/-- Frame Control of a buffer (R44, R46). -/
def bufferControl (buf : Memory) : FrameControl := FrameControl.ofBytes (buf.read 0) (buf.read 1)

/-- The failures a buffer can show, each with whether it does, in the order they are taken (R105, R106, R107, R109). -/
def failures (cfg : Config) (buf : Memory) (len : Nat) : List (Bool × DecodeError) :=
  let fc := bufferControl buf
  [ (decide (len < 2), .truncated 0),
    (fc.version != Config.versionSupported, .unsupportedVersion 0),
    (decide (len < 4), .truncated 2),
    (decide (len < 10), .truncated 4),
    (!cfg.addrValid (buf.bytes 4 6), .invalidAddress 4),
    (decide (len < 16), .truncated 10),
    (!cfg.addrValid (buf.bytes 10 6), .invalidAddress 10),
    (decide (len < 22), .truncated 16),
    (!cfg.addrValid (buf.bytes 16 6), .invalidAddress 16),
    (pSc fc && decide (len < 24), .truncated 22),
    (pA4 fc && decide (len < offA4 fc + 6), .truncated (offA4 fc)),
    (pA4 fc && !cfg.addrValid (buf.bytes (offA4 fc) 6), .invalidAddress (offA4 fc)),
    (pQos fc && decide (len < offQos fc + 2), .truncated (offQos fc)),
    (pHt cfg fc && decide (len < offHt fc + 4), .truncated (offHt fc)),
    (decide (len < headerLen cfg fc + 4), .truncated (headerLen cfg fc)) ]

/-- The first failure, if any: one error per decode (R109). -/
def firstFailure (cfg : Config) (buf : Memory) (len : Nat) : Option DecodeError :=
  ((failures cfg buf len).find? fun f => f.1).map fun f => f.2

/-- The frame a buffer with no failure describes (R42, R43, R47, R48, R100). -/
def describedFrame (cfg : Config) (buf : Memory) (len : Nat) : Frame :=
  let fc := bufferControl buf
  { version := fc.version
    family := family fc
    subkind := subkind fc
    flags := fc.flags
    durationId := buf.read16 2
    address1 := buf.bytes 4 6
    address2 := buf.bytes 10 6
    address3 := buf.bytes 16 6
    address4 := whenValid (pA4 fc) (buf.bytes (offA4 fc) 6)
    sequenceControl :=
      whenValid (pSc fc) ((buf.read16 22).extractLsb' 12 4, (buf.read16 22).extractLsb' 0 12)
    qosControl := whenValid (pQos fc) (buf.read16 (offQos fc))
    htControl := whenValid (pHt cfg fc) (buf.read32 (offHt fc))
    bodyOff := headerLen cfg fc
    bodyLen := len - headerLen cfg fc - Config.fcsLen
    integrityField := buf.read32 (len - Config.fcsLen)
    headerLen := headerLen cfg fc
    roles := roleTable fc }

/-- `decode(BUF, L)` (R100), for an `L` that `LEN_MAX` admits (R14): the other two parameters decide the result. -/
def decode (cfg : Config) (buf : Memory) (len : Nat) : Result :=
  match firstFailure cfg buf len with
  | some e => .err e
  | none => .ok (describedFrame cfg buf len)

/-- `n` transitions for any parameters, stopping at a fault or a refusal. -/
def transitions (cfg : Config) : Nat → State → Host.Outcome State Fault Refusal
  | 0, s => .next s
  | n + 1, s =>
    match advanceWith cfg s with
    | .next t => transitions cfg n t
    | .fault f => .fault f
    | .refused r => .refused r

/-- A transaction on `frame`: the accepted request (R89), refused when the frame is longer than `LEN_MAX` (R7), and nine
transitions, after which it has ended (R102). -/
def transaction (cfg : Config) (frame : List Byte) (s : State) : Host.Outcome State Fault Refusal :=
  match takeRequest cfg frame s with
  | .next t => transitions cfg 9 t
  | .fault f => .fault f
  | .refused r => .refused r

end Sys2Proof.Machine
end

