-- ==== Sys2Proof/Safety.lean ====
section
/-! DEFINITION. What a safe run keeps: the invariant of the decoder's states, from the invariants the spec states of the cursor
(R15), of each `STATE` (R90 to R98), of failures (R104, R110) and of a successful result (R26). -/

namespace Sys2Proof

open Machine

/-- The working states after `Start`, and `Done`, in their order (R88): how many transitions have been taken. `Idle`, `Start`
and `Failed` are not among them. -/
def Safety.progress : Stage → Nat
  | .idle => 0
  | .start => 0
  | .frameControlDecoded => 1
  | .addressesDecoded => 2
  | .sequenceControlResolved => 3
  | .address4Resolved => 4
  | .qosResolved => 5
  | .htResolved => 6
  | .bodyResolved => 7
  | .integrityFieldRead => 8
  | .done => 9
  | .failed => 0

/-- `CUR_BYTE` on entry to each state that a transition without failure leads to (R90 to R98). -/
def Safety.cursorByte (fc : FrameControl) (len : Nat) : Stage → Option Nat
  | .idle => some 0
  | .start => some 0
  | .frameControlDecoded => some 2
  | .addressesDecoded => some 22
  | .sequenceControlResolved => some (offA4 fc)
  | .address4Resolved => some (offQos fc)
  | .qosResolved => some (offHt fc)
  | .htResolved => some (headerLen hardware fc)
  | .bodyResolved => some (len - 4)
  | .integrityFieldRead => some len
  | .done => some len
  | .failed => none

/-- The input buffer is in canonical form and names no byte at or past `L` (R14, R28; assumption log 5). -/
structure Safety.InputOk (s : State) : Prop where
  canonical : s.buf.wf = true
  inside : s.buf.inside s.len = true

/-- The cursor (R15, R32): within the buffer in every state, and where the state's rule leaves it unless a read failed. -/
structure Safety.CursorOk (s : State) : Prop where
  within : s.bitPos ≤ 8 * s.len
  aligned : s.stage ≠ .failed → s.cur.bit = 0
  placed : ∀ b, Safety.cursorByte s.fc s.len s.stage = some b → s.cur.byte = b

/-- Which registers have been written (R16, R25, R89): none before Frame Control is decoded, and an optional field's valid bit
only from its own transition on. An absent optional field holds its reset value. -/
structure Safety.RegistersOk (s : State) : Prop where
  idle : s.stage = .idle → s = hardReset s
  start : s.stage = .start → s = (hardReset s).setStage .start
  version : 1 ≤ Safety.progress s.stage → s.fc = bufferControl s.buf ∧ s.fc.version = 0
  sequence : s.stage ≠ .failed → s.fields.scValid = (decide (3 ≤ Safety.progress s.stage) && pSc s.fc)
  address4 : s.stage ≠ .failed → s.fields.addr4Valid = (decide (4 ≤ Safety.progress s.stage) && pA4 s.fc)
  qos : s.stage ≠ .failed → s.fields.qosValid = (decide (5 ≤ Safety.progress s.stage) && pQos s.fc)
  ht : s.stage ≠ .failed → s.fields.htValid = (decide (6 ≤ Safety.progress s.stage) && pHt hardware s.fc)
  noSequence : s.stage ≠ .failed → s.fields.scValid = false → s.fields.scFrag = 0 ∧ s.fields.scSeq = 0
  noAddress4 : s.fields.addr4Valid = false → s.fields.addr4 = HwAddress.zero
  noQos : s.fields.qosValid = false → s.fields.qos = 0
  noHt : s.fields.htValid = false → s.fields.ht = 0
  roles : s.roles = if s.stage = .done then roleTable s.fc else State.reset.roles

/-- The result registers and the body (R23, R26, R104, R110): an error exactly in `Failed`, of the two kinds this hardware
raises; and from the body check on, header, body and integrity field fill the buffer. -/
structure Safety.ResultOk (s : State) : Prop where
  noError : s.stage ≠ .failed → s.status = .ok ∧ s.errOffset = 0
  error : s.stage = .failed →
    (s.status = .truncated ∨ (s.status = .unsupportedVersion ∧ s.errOffset = 0)) ∧ s.errOffset ≤ s.len
  body : 7 ≤ Safety.progress s.stage →
    s.fields.hdrLen = headerLen hardware s.fc ∧ s.fields.bodyOff = s.fields.hdrLen ∧
      s.fields.hdrLen + s.fields.bodyLen + 4 = s.len

/-- The invariant of the decoder's states. -/
structure Safety.Inv (s : State) : Prop where
  input : Safety.InputOk s
  cursor : Safety.CursorOk s
  registers : Safety.RegistersOk s
  result : Safety.ResultOk s

end Sys2Proof
end

