-- ==== Sys2Proof/Certificates/Slice0/Obligations.lean ====
section
/-! DEFINITION. The statements for the provers, and the lists of frame classes they speak of. Rules are the spec's R<n>. -/

namespace Sys2Proof.Classes

/-- The Control classes with flags byte `flags`, each with its subtype code and its `SUBKIND` as its rule's table pairs them. -/
def controlClasses (flags : Byte) : List (Instr × BitVec 4 × ControlSubtype) :=
  [ (.ctlReserved0 flags, 0x0, .reserved 0x0),
    (.ctlReserved1 flags, 0x1, .reserved 0x1),
    (.ctlTrigger flags, 0x2, .trigger),
    (.ctlReserved3 flags, 0x3, .reserved 0x3),
    (.ctlBfReportPoll flags, 0x4, .beamformingReportPoll),
    (.ctlVhtNdpAnnouncement flags, 0x5, .vhtNdpAnnouncement),
    (.ctlFrameExtension flags, 0x6, .controlFrameExtension),
    (.ctlWrapper flags, 0x7, .controlWrapper),
    (.ctlBlockAckReq flags, 0x8, .blockAckRequest),
    (.ctlBlockAck flags, 0x9, .blockAck),
    (.ctlPsPoll flags, 0xA, .psPoll),
    (.ctlRts flags, 0xB, .rts),
    (.ctlCts flags, 0xC, .cts),
    (.ctlAck flags, 0xD, .ack),
    (.ctlCfEnd flags, 0xE, .cfEnd),
    (.ctlCfEndCfAck flags, 0xF, .cfEndCfAck) ]

/-- The Management classes with flags byte `flags`, each with its subtype code and its `SUBKIND` as its rule's table pairs them. -/
def managementClasses (flags : Byte) : List (Instr × BitVec 4 × ManagementSubtype) :=
  [ (.mgtAssocReq flags, 0x0, .associationRequest),
    (.mgtAssocResp flags, 0x1, .associationResponse),
    (.mgtReassocReq flags, 0x2, .reassociationRequest),
    (.mgtReassocResp flags, 0x3, .reassociationResponse),
    (.mgtProbeReq flags, 0x4, .probeRequest),
    (.mgtProbeResp flags, 0x5, .probeResponse),
    (.mgtTimingAdv flags, 0x6, .timingAdvertisement),
    (.mgtReserved7 flags, 0x7, .reserved 0x7),
    (.mgtBeacon flags, 0x8, .beacon),
    (.mgtAtim flags, 0x9, .atim),
    (.mgtDisassoc flags, 0xA, .disassociation),
    (.mgtAuth flags, 0xB, .authentication),
    (.mgtDeauth flags, 0xC, .deauthentication),
    (.mgtAction flags, 0xD, .action),
    (.mgtActionNoAck flags, 0xE, .actionNoAck),
    (.mgtReservedF flags, 0xF, .reserved 0xF) ]

/-- The Extension classes with flags byte `flags`, each with its subtype code and its `SUBKIND` as its rule's table pairs them. -/
def extensionClasses (flags : Byte) : List (Instr × BitVec 4 × ExtensionSubtype) :=
  [ (.extDmgBeacon flags, 0x0, .dmgBeacon),
    (.extReserved1 flags, 0x1, .reserved 0x1),
    (.extReserved2 flags, 0x2, .reserved 0x2),
    (.extReserved3 flags, 0x3, .reserved 0x3),
    (.extReserved4 flags, 0x4, .reserved 0x4),
    (.extReserved5 flags, 0x5, .reserved 0x5),
    (.extReserved6 flags, 0x6, .reserved 0x6),
    (.extReserved7 flags, 0x7, .reserved 0x7),
    (.extReserved8 flags, 0x8, .reserved 0x8),
    (.extReserved9 flags, 0x9, .reserved 0x9),
    (.extReservedA flags, 0xA, .reserved 0xA),
    (.extReservedB flags, 0xB, .reserved 0xB),
    (.extReservedC flags, 0xC, .reserved 0xC),
    (.extReservedD flags, 0xD, .reserved 0xD),
    (.extReservedE flags, 0xE, .reserved 0xE),
    (.extReservedF flags, 0xF, .reserved 0xF) ]

/-- The Data classes with flags byte `flags`, each with its subtype code and the bits ack, poll, null, qos, has_data. -/
def dataClasses (flags : Byte) : List (Instr × BitVec 4 × DataSubtype) :=
  [ (.data flags, 0x0, ⟨false, false, false, false, true⟩),
    (.dataAck flags, 0x1, ⟨true, false, false, false, true⟩),
    (.dataPoll flags, 0x2, ⟨false, true, false, false, true⟩),
    (.dataAckPoll flags, 0x3, ⟨true, true, false, false, true⟩),
    (.dataNull flags, 0x4, ⟨false, false, true, false, false⟩),
    (.dataAckNull flags, 0x5, ⟨true, false, true, false, false⟩),
    (.dataPollNull flags, 0x6, ⟨false, true, true, false, false⟩),
    (.dataAckPollNull flags, 0x7, ⟨true, true, true, false, false⟩),
    (.dataQos flags, 0x8, ⟨false, false, false, true, true⟩),
    (.dataAckQos flags, 0x9, ⟨true, false, false, true, true⟩),
    (.dataPollQos flags, 0xA, ⟨false, true, false, true, true⟩),
    (.dataAckPollQos flags, 0xB, ⟨true, true, false, true, true⟩),
    (.dataNullQos flags, 0xC, ⟨false, false, true, true, false⟩),
    (.dataAckNullQos flags, 0xD, ⟨true, false, true, true, false⟩),
    (.dataPollNullQos flags, 0xE, ⟨false, true, true, true, false⟩),
    (.dataAckPollNullQos flags, 0xF, ⟨true, true, true, true, false⟩) ]

/-- The classes with Sequence Control, by R78: Management and Data. -/
def withSequence (flags : Byte) : List Instr :=
  (managementClasses flags).map (fun e => e.1) ++ (dataClasses flags).map (fun e => e.1)

/-- The classes without Sequence Control, by R78: Control and Extension. -/
def withoutSequence (flags : Byte) : List Instr :=
  (controlClasses flags).map (fun e => e.1) ++ (extensionClasses flags).map (fun e => e.1)

/-- The 64 classes of protocol version 0. -/
def version0 (flags : Byte) : List Instr := withSequence flags ++ withoutSequence flags

/-- The classes with QoS Control, by R80: Data with the `qos` bit. -/
def withQos (flags : Byte) : List Instr :=
  [.dataQos flags, .dataAckQos flags, .dataPollQos flags, .dataAckPollQos flags,
   .dataNullQos flags, .dataAckNullQos flags, .dataPollNullQos flags, .dataAckPollNullQos flags]

/-- The classes that have HT Control when `order` is set, by R82. -/
def withHtOnOrder (flags : Byte) : List Instr :=
  withQos flags ++ [.mgtAction flags, .mgtActionNoAck flags]

/-- The classes of the unsupported protocol versions, each with its version. -/
def unsupported (type : BitVec 2) (subtype : BitVec 4) (flags : Byte) : List (Instr × BitVec 2) :=
  [(.unsupportedVersion1 type subtype flags, 1), (.unsupportedVersion2 type subtype flags, 2),
   (.unsupportedVersion3 type subtype flags, 3)]

end Sys2Proof.Classes

namespace Sys2Proof

open Machine

/-- The state machine is in `g` with the cursor on the boundary before byte `b`. -/
abbrev Statements.at (s : State) (g : Stage) (b : Nat) : Prop := s.stage = g ∧ s.cur = { byte := b, bit := 0 }

/-- The fields present in a header, in field order, each as its offset and its length (R42, R43). -/
def Statements.presentFields (fc : FrameControl) : List (Nat × Nat) :=
  [(2, 2), (4, 6), (10, 6), (16, 6)] ++
  (if pSc fc then [(22, 2)] else []) ++
  (if pA4 fc then [(offA4 fc, 6)] else []) ++
  (if pQos fc then [(offQos fc, 2)] else []) ++
  (if pHt hardware fc then [(offHt fc, 4)] else [])

/-- The run of the machine on one request: the step that accepts it and the nine transitions of R102, the host quiet after it. -/
abbrev Statements.runs (s : State) (frame : List Byte) (t : State) : Prop :=
  Sys2Proof.core.run 10 (s.setHost [.request frame]) = .next t

/-- A state as the host could compare it, less what the flags byte itself shows: `FC_FLAGS` and the buffer. -/
def Statements.withoutFlags (s : State) : State :=
  { s with fc := { s.fc with flags := 0 }, buf := [] }

end Sys2Proof

section

open Sys2Proof Sys2Proof.Machine

/-! Decoding Frame Control. -/

/-- R42, R44, R46: what a class encodes to decodes to it, with every operand at every value. -/
def Obligations.DecodeOfEncodeIsTheClass : Prop :=
  ∀ (i : Instr) (rest : List Byte), i.wf = true → decodeBytes (encode i ++ rest) = .ok (i, rest)

/-- R44, R46, R49: the two bytes a class is decoded from are what it encodes to, so no two byte pairs share a class. -/
def Obligations.EncodeOfDecodeIsTheBytes : Prop :=
  ∀ (fc0 fc1 : Byte) (rest : List Byte),
    ∃ i, decodeBytes (fc0 :: fc1 :: rest) = .ok (i, rest) ∧ encode i = [fc0, fc1]

/-- R49: the 67 rows are disjoint and cover all 256 values of the first byte; the version-0 rows match `(s << 4) | (t << 2)`,
where t and s are the codes that the class sets. -/
def Obligations.OpcodeRowsPartitionTheFirstByte : Prop :=
  let rows := Classes.version0 0 ++ (Classes.unsupported 0 0 0).map (fun e => e.1)
  rows.length = 67 ∧
  (∀ fc0 : Byte, (rows.filter fun i => fc0 &&& i.rowMask == i.rowMatch).length = 1) ∧
  (∀ i ∈ Classes.version0 0, i.rowMask = 0xFF ∧
    i.rowMatch = (i.frameControl.subtype.zeroExtend 8 <<< 4) ||| (i.frameControl.type.zeroExtend 8 <<< 2)) ∧
  (∀ e ∈ Classes.unsupported 0 0 0, e.1.rowMask = 0x03 ∧ e.1.rowMatch = e.2.zeroExtend 8)

/-- Words written out from R44 and R46, one or two of each family, and what they stand for. -/
def Obligations.WrittenOutWordsDecode : Prop :=
  decodeBytes [0b10000100, 0b00000011] = .ok (.mgtBeacon 0b00000011, []) ∧
  decodeBytes [0b11010100, 0b10000010] = .ok (.mgtAction 0b10000010, []) ∧
  decodeBytes [0b11010000, 0b10001000] = .ok (.ctlAck 0b10001000, []) ∧
  decodeBytes [0b10001000, 0b10000011] = .ok (.dataQos 0b10000011, []) ∧
  decodeBytes [0b01001000, 0b00010101] = .ok (.dataNull 0b00010101, []) ∧
  decodeBytes [0b00011100, 0b00000000] = .ok (.extReserved1 0b00000000, []) ∧
  decodeBytes [0b01001011, 0b00000000] = .ok (.unsupportedVersion3 0b10 0b0100 0b00000000, []) ∧
  decodeBytes [0b00001001] = .error .shorterThanFrameControl

/-! What a step adds around a frame class. -/

/-- In `Start`, when the two bytes at the cursor decode to class `i`, the step is `i` with the cursor past them. -/
def Obligations.StepInStartRunsTheDecodedClass : Prop :=
  ∀ (s : State) (i : Instr), s.stage = .start → s.cur.bit = 0 → s.cur.byte + 2 ≤ s.len → s.hostNow ≠ .reset →
    decodeBytes [s.buf.read s.cur.byte, s.buf.read (s.cur.byte + 1)] = .ok (i, []) →
    step s = exec i { s with cur := { byte := s.cur.byte + 2, bit := 0 }, host := s.host.tail }

/-- After `Start`, the step is the class whose Frame Control the registers hold, one transition of it. -/
def Obligations.StepAfterStartRunsTheClassInProgress : Prop :=
  ∀ (s : State) (i : Instr), s.stage.waiting = false → s.stage ≠ .start → s.hostNow ≠ .reset → s.fc = i.frameControl →
    step s = exec i { s with host := s.host.tail }

/-- R62: with fewer than two bytes, `Start` raises `Truncated(0)`, whatever the version bits, and nothing else changes. -/
def Obligations.ShortFrameControlIsTruncated : Prop :=
  ∀ s : State, Statements.at s .start 0 → s.len < 2 → s.hostNow ≠ .reset →
    step s = .next { s with stage := .failed, status := .truncated, errOffset := 0, host := s.host.tail }

/-! The first transition of every class, and the classification it fixes. -/

/-- R66: each of the sixteen Control classes, from `Start`, sets its codes, and they classify as the rule's table says. -/
def Obligations.ControlClassesDecodeAsTheirTable : Prop :=
  ∀ (flags : Byte) (s : State), s.stage = .start → ∀ e ∈ Classes.controlClasses flags, ∃ t,
    exec e.1 s = .next t ∧
    t = { s with stage := .frameControlDecoded, fc := { version := 0, type := 0, subtype := e.2.1, flags := flags } } ∧
    family t.fc = .control ∧ subkind t.fc = .control e.2.2

/-- R67: each of the sixteen Management classes. -/
def Obligations.ManagementClassesDecodeAsTheirTable : Prop :=
  ∀ (flags : Byte) (s : State), s.stage = .start → ∀ e ∈ Classes.managementClasses flags, ∃ t,
    exec e.1 s = .next t ∧
    t = { s with stage := .frameControlDecoded, fc := { version := 0, type := 1, subtype := e.2.1, flags := flags } } ∧
    family t.fc = .management ∧ subkind t.fc = .management e.2.2

/-- R68: each of the sixteen Data classes, by its four bits and `has_data`. -/
def Obligations.DataClassesDecodeAsTheirBits : Prop :=
  ∀ (flags : Byte) (s : State), s.stage = .start → ∀ e ∈ Classes.dataClasses flags, ∃ t,
    exec e.1 s = .next t ∧
    t = { s with stage := .frameControlDecoded, fc := { version := 0, type := 2, subtype := e.2.1, flags := flags } } ∧
    family t.fc = .data ∧ subkind t.fc = .data e.2.2 ∧
    e.2.2 = { ack := e.2.1.getLsbD 0, poll := e.2.1.getLsbD 1, null := e.2.1.getLsbD 2, qos := e.2.1.getLsbD 3,
              hasData := !e.2.1.getLsbD 2 }

/-- R69: each of the sixteen Extension classes; only code 0 is assigned. -/
def Obligations.ExtensionClassesDecodeAsTheirTable : Prop :=
  ∀ (flags : Byte) (s : State), s.stage = .start → ∀ e ∈ Classes.extensionClasses flags, ∃ t,
    exec e.1 s = .next t ∧
    t = { s with stage := .frameControlDecoded, fc := { version := 0, type := 3, subtype := e.2.1, flags := flags } } ∧
    family t.fc = .extension ∧ subkind t.fc = .extension e.2.2 ∧
    e.2.2 = if e.2.1 = 0 then .dmgBeacon else .reserved e.2.1

/-- R63: each class of an unsupported version, from `Start`, raises `UnsupportedVersion(0)`; its Frame Control registers are
written, and nothing else changes. -/
def Obligations.UnsupportedVersionsFailInStart : Prop :=
  ∀ (type : BitVec 2) (subtype : BitVec 4) (flags : Byte) (s : State), s.stage = .start →
    ∀ e ∈ Classes.unsupported type subtype flags,
      exec e.1 s = .next { s with
        stage := .failed, status := .unsupportedVersion, errOffset := 0,
        fc := { version := e.2, type := type, subtype := subtype, flags := flags } }

/-- R106: a buffer of at least two bytes with a nonzero version fails in the first transition with `UnsupportedVersion(0)`,
whatever its length and the rest of its content. -/
def Obligations.BadVersionFailsWhateverFollows : Prop :=
  ∀ s : State, Statements.at s .start 0 → 2 ≤ s.len → (s.buf.read 0).extractLsb' 0 2 ≠ 0 → s.hostNow ≠ .reset →
    ∃ t, step s = .next t ∧ t.stage = .failed ∧ t.result = some (.err (.unsupportedVersion 0)) ∧ t.fields = s.fields

/-- R70: `(FAMILY, SUBKIND)` gives back `(FC_TYPE, FC_SUBTYPE)`. -/
def Obligations.ClassificationLosesNothing : Prop :=
  ∀ fc gc : FrameControl, family fc = family gc → subkind fc = subkind gc → fc.type = gc.type ∧ fc.subtype = gc.subtype

/-- R46: the eight flags are the bits of Frame Control byte 1, least significant first. -/
def Obligations.FlagsAreTheBitsOfByteOne : Prop :=
  ∀ fc0 fc1 : Byte,
    let fc := FrameControl.ofBytes fc0 fc1
    fc.flags = fc1 ∧
    toDs fc = fc1.getLsbD 0 ∧ fromDs fc = fc1.getLsbD 1 ∧ moreFragments fc = fc1.getLsbD 2 ∧ retry fc = fc1.getLsbD 3 ∧
    powerMgmt fc = fc1.getLsbD 4 ∧ moreData fc = fc1.getLsbD 5 ∧ protectedFlag fc = fc1.getLsbD 6 ∧
    order fc = fc1.getLsbD 7

/-! The presence predicates and the roles. -/

/-- R74, R78, R80, R82: Sequence Control for Management and Data; Address4 with both DS flags, in every class; QoS Control for
Data with the `qos` bit; HT Control with `order`, for QoS Data, Action and Action-No-Ack. -/
def Obligations.PresencePredicatesByClass : Prop :=
  ∀ flags : Byte,
    (∀ i ∈ Classes.version0 flags,
      (pSc i.frameControl = true ↔ i ∈ Classes.withSequence flags) ∧
      pA4 i.frameControl = (flags.getLsbD 0 && flags.getLsbD 1) ∧
      (pQos i.frameControl = true ↔ i ∈ Classes.withQos flags) ∧
      (pHt hardware i.frameControl = true ↔ (flags.getLsbD 7 = true ∧ i ∈ Classes.withHtOnOrder flags)))

/-- R77: the role table, and that no role appears in two slots of one row. -/
def Obligations.RoleTableByDsFlags : Prop :=
  ∀ fc : FrameControl,
    roleTable fc =
      (if toDs fc then
        if fromDs fc then { role1 := 0x01, role2 := 0x02, role3 := 0x04, role4 := 0x08 }
        else { role1 := 0x11, role2 := 0x0A, role3 := 0x04, role4 := 0x00 }
      else
        if fromDs fc then { role1 := 0x05, role2 := 0x12, role3 := 0x08, role4 := 0x00 }
        else { role1 := 0x05, role2 := 0x0A, role3 := 0x10, role4 := 0x00 }) ∧
    (roleTable fc).role1 &&& (roleTable fc).role2 = 0 ∧ (roleTable fc).role1 &&& (roleTable fc).role3 = 0 ∧
    (roleTable fc).role1 &&& (roleTable fc).role4 = 0 ∧ (roleTable fc).role2 &&& (roleTable fc).role3 = 0 ∧
    (roleTable fc).role2 &&& (roleTable fc).role4 = 0 ∧ (roleTable fc).role3 &&& (roleTable fc).role4 = 0

/-! The BitCursor. -/

/-- R55: `take_bits(n)` reads n bits, the first one most significant, and moves the cursor by exactly n; with fewer left it
raises `Truncated(CUR_BYTE)`. -/
def Obligations.TakeBitsIsMostSignificantFirst : Prop :=
  ∀ (n : Nat) (s : State), 1 ≤ n → n ≤ 32 →
    (8 * s.len < 8 * s.cur.byte + s.cur.bit.val + n → takeBits n s = .raised (.truncated s.cur.byte) s) ∧
    (8 * s.cur.byte + s.cur.bit.val + n ≤ 8 * s.len → ∃ v t, takeBits n s = .ok v t ∧
      (∀ i, i < n → v.getMsbD i =
        (s.buf.read ((8 * s.cur.byte + s.cur.bit.val + i) / 8)).getLsbD
          (7 - (8 * s.cur.byte + s.cur.bit.val + i) % 8)) ∧
      t = { s with cur := t.cur } ∧
      t.cur.byte = (8 * s.cur.byte + s.cur.bit.val + n) / 8 ∧ t.cur.bit.val = (8 * s.cur.byte + s.cur.bit.val + n) % 8)

/-- R61: a `take_bits` outside 1 to 32 is refused, and a cursor operation that raises `Truncated` leaves the whole state as it
was and records the cursor's byte. -/
def Obligations.CursorStaysOnTruncation : Prop :=
  (∀ (n : Nat) (s : State), (n = 0 ∨ 32 < n) → runCursorOp (.takeBits n) s = .refused (.takeBitsWidth n)) ∧
  (∀ (op : CursorOp) (s t : State) (off : Nat), runCursorOp op s = .raised (.truncated off) t →
    t = s ∧ off = s.cur.byte)

/-- R57: `byte_align` has no effect on a boundary and is the internal fault off it; a class that meets it off a boundary, in a
state no run reaches, stops with that fault. -/
def Obligations.ByteAlignChecksTheBoundary : Prop :=
  ∀ s : State, (s.cur.bit = 0 → byteAlign s = .ok () s) ∧ (s.cur.bit ≠ 0 → byteAlign s = .fault .misaligned) ∧
    (s.cur.bit ≠ 0 → (s.stage = .frameControlDecoded ∨ s.stage = .htResolved ∨ s.stage = .bodyResolved) →
      ∀ i, exec i s = .fault .misaligned)

/-- R58: `take_bytes` and `skip_bytes`: the check of the boundary, the check of the whole width, the bytes and the advance. -/
def Obligations.ByteOperationsMoveWholeBytes : Prop :=
  ∀ (n : Nat) (s : State),
    (s.cur.bit ≠ 0 → takeBytes n s = .fault .misaligned ∧ skipBytes n s = .fault .misaligned) ∧
    (s.cur.bit = 0 → s.len < s.cur.byte + n →
      takeBytes n s = .raised (.truncated s.cur.byte) s ∧ skipBytes n s = .raised (.truncated s.cur.byte) s) ∧
    (s.cur.bit = 0 → s.cur.byte + n ≤ s.len →
      takeBytes n s = .ok (Vector.ofFn fun k => s.buf.read (s.cur.byte + k.val))
        { s with cur := { byte := s.cur.byte + n, bit := 0 } } ∧
      skipBytes n s = .ok () { s with cur := { byte := s.cur.byte + n, bit := 0 } })

/-- R59: `read_u16` and `read_u32` are big-endian, first byte most significant (R30), from a byte boundary. -/
def Obligations.IntegerReadsAreBigEndian : Prop :=
  ∀ s : State, (s.cur.bit ≠ 0 → readU16 s = .fault .misaligned ∧ readU32 s = .fault .misaligned) ∧ (s.cur.bit = 0 →
    (s.cur.byte + 2 ≤ s.len →
      readU16 s = .ok (s.buf.read s.cur.byte ++ s.buf.read (s.cur.byte + 1))
        { s with cur := { byte := s.cur.byte + 2, bit := 0 } }) ∧
    (s.len < s.cur.byte + 2 → readU16 s = .raised (.truncated s.cur.byte) s) ∧
    (s.cur.byte + 4 ≤ s.len →
      readU32 s = .ok (s.buf.read s.cur.byte ++ s.buf.read (s.cur.byte + 1) ++ s.buf.read (s.cur.byte + 2) ++
          s.buf.read (s.cur.byte + 3))
        { s with cur := { byte := s.cur.byte + 4, bit := 0 } }) ∧
    (s.len < s.cur.byte + 4 → readU32 s = .raised (.truncated s.cur.byte) s))

/-- R56, R60: `take_bool` is the next bit, and the two counts of what remains. -/
def Obligations.OneBitAndWhatRemains : Prop :=
  ∀ s : State,
    (8 * s.cur.byte + s.cur.bit.val < 8 * s.len →
      ∃ t, takeBool s = .ok ((s.buf.read s.cur.byte).getLsbD (7 - s.cur.bit.val)) t ∧ t = { s with cur := t.cur } ∧
        8 * t.cur.byte + t.cur.bit.val = 8 * s.cur.byte + s.cur.bit.val + 1) ∧
    (8 * s.len ≤ 8 * s.cur.byte + s.cur.bit.val → takeBool s = .raised (.truncated s.cur.byte) s) ∧
    remainingBits s = 8 * s.len - (8 * s.cur.byte + s.cur.bit.val) ∧
    (s.cur.bit = 0 → remainingBytes s = s.len - s.cur.byte)

/-! The transitions after Frame Control, for every class: result, cursor, next `STATE`, and that nothing else changes. -/

/-- R71, R72, R91: Duration/ID and the three addresses, when the buffer holds them. -/
def Obligations.AddressesTransitionReadsTheFixedFields : Prop :=
  ∀ (i : Instr) (s : State), Statements.at s .frameControlDecoded 2 → 22 ≤ s.len →
    exec i s = .next { s with
      stage := .addressesDecoded
      cur := { byte := 22, bit := 0 }
      fields := { s.fields with
        durationId := s.buf.read 2 ++ s.buf.read 3
        addr1 := Vector.ofFn fun k => s.buf.read (4 + k.val)
        addr2 := Vector.ofFn fun k => s.buf.read (10 + k.val)
        addr3 := Vector.ofFn fun k => s.buf.read (16 + k.val) } }

/-- R71, R72, R110: a buffer that ends in the fixed fields raises `Truncated` at the first field that does not fit, where the
cursor stays, and the fields before it are in their registers. -/
def Obligations.AddressesTransitionTruncates : Prop :=
  ∀ (i : Instr) (s : State), Statements.at s .frameControlDecoded 2 → s.len < 22 →
    let off := if s.len < 4 then 2 else if s.len < 10 then 4 else if s.len < 16 then 10 else 16
    exec i s = .next { s with
      stage := .failed
      status := .truncated
      errOffset := off
      cur := { byte := off, bit := 0 }
      fields := { s.fields with
        durationId := if s.len < 4 then s.fields.durationId else s.buf.read 2 ++ s.buf.read 3
        addr1 := if s.len < 10 then s.fields.addr1 else Vector.ofFn fun k => s.buf.read (4 + k.val)
        addr2 := if s.len < 16 then s.fields.addr2 else Vector.ofFn fun k => s.buf.read (10 + k.val) } }

/-- R79, R92: Sequence Control for the classes that have it: 4 bits, then 12. -/
def Obligations.SequenceControlIsRead : Prop :=
  ∀ (flags : Byte) (s : State), Statements.at s .addressesDecoded 22 → 24 ≤ s.len → ∀ i ∈ Classes.withSequence flags,
    exec i s = .next { s with
      stage := .sequenceControlResolved
      cur := { byte := 24, bit := 0 }
      fields := { s.fields with
        scFrag := (s.buf.read 22).extractLsb' 4 4
        scSeq := (s.buf.read 22).extractLsb' 0 4 ++ s.buf.read 23
        scValid := true } }

/-- R79, R110: Sequence Control that does not fit raises `Truncated(22)`. With one byte of it there, the 4-bit read has
succeeded and the cursor stands where the 12-bit read began. -/
def Obligations.SequenceControlTruncates : Prop :=
  ∀ (flags : Byte) (s : State), Statements.at s .addressesDecoded 22 → s.len < 24 → ∀ i ∈ Classes.withSequence flags,
    exec i s = .next { s with
      stage := .failed
      status := .truncated
      errOffset := 22
      cur := { byte := 22, bit := if s.len = 23 then 4 else 0 }
      fields := { s.fields with
        scFrag := if s.len = 23 then (s.buf.read 22).extractLsb' 4 4 else s.fields.scFrag } }

/-- R79, R92: the classes without Sequence Control read nothing and move nothing. -/
def Obligations.SequenceControlAbsentReadsNothing : Prop :=
  ∀ (flags : Byte) (s : State) (b : Nat), Statements.at s .addressesDecoded b → ∀ i ∈ Classes.withoutSequence flags,
    exec i s = .next { s with stage := .sequenceControlResolved, fields := { s.fields with scValid := false } }

/-- R75, R93: Address4, in every class with both DS flags set, read where the cursor is, or `Truncated` there. -/
def Obligations.Address4IsReadWithBothDsFlags : Prop :=
  ∀ (i : Instr) (s : State) (b : Nat), Statements.at s .sequenceControlResolved b →
    i.flags.getLsbD 0 = true → i.flags.getLsbD 1 = true →
    (b + 6 ≤ s.len → exec i s = .next { s with
      stage := .address4Resolved
      cur := { byte := b + 6, bit := 0 }
      fields := { s.fields with addr4 := Vector.ofFn fun k => s.buf.read (b + k.val), addr4Valid := true } }) ∧
    (s.len < b + 6 → exec i s = .next { s with stage := .failed, status := .truncated, errOffset := b })

/-- R75, R93: without both DS flags nothing is read, and the cursor does not move. -/
def Obligations.Address4AbsentReadsNothing : Prop :=
  ∀ (i : Instr) (s : State), s.stage = .sequenceControlResolved →
    (i.flags.getLsbD 0 = false ∨ i.flags.getLsbD 1 = false) →
    exec i s = .next { s with stage := .address4Resolved, fields := { s.fields with addr4Valid := false } }

/-- R81, R94: QoS Control of the QoS Data classes, read where the cursor is, or `Truncated` there. -/
def Obligations.QosControlIsRead : Prop :=
  ∀ (flags : Byte) (s : State) (b : Nat), Statements.at s .address4Resolved b → ∀ i ∈ Classes.withQos flags,
    (b + 2 ≤ s.len → exec i s = .next { s with
      stage := .qosResolved
      cur := { byte := b + 2, bit := 0 }
      fields := { s.fields with qos := s.buf.read b ++ s.buf.read (b + 1), qosValid := true } }) ∧
    (s.len < b + 2 → exec i s = .next { s with stage := .failed, status := .truncated, errOffset := b })

/-- R81, R94: every other class reads no QoS Control. -/
def Obligations.QosControlAbsentReadsNothing : Prop :=
  ∀ (flags : Byte) (s : State), s.stage = .address4Resolved →
    ∀ i ∈ Classes.version0 flags, i ∉ Classes.withQos flags →
      exec i s = .next { s with stage := .qosResolved, fields := { s.fields with qosValid := false } }

/-- R83, R95: HT Control with `order` set, read where the cursor is, or `Truncated` there. -/
def Obligations.HtControlIsReadOnOrder : Prop :=
  ∀ (flags : Byte) (s : State) (b : Nat), Statements.at s .qosResolved b → flags.getLsbD 7 = true →
    ∀ i ∈ Classes.withHtOnOrder flags,
      (b + 4 ≤ s.len → exec i s = .next { s with
        stage := .htResolved
        cur := { byte := b + 4, bit := 0 }
        fields := { s.fields with
          ht := s.buf.read b ++ s.buf.read (b + 1) ++ s.buf.read (b + 2) ++ s.buf.read (b + 3)
          htValid := true } }) ∧
      (s.len < b + 4 → exec i s = .next { s with stage := .failed, status := .truncated, errOffset := b })

/-- R83, R95: without `order`, and in every other class, no HT Control is read. -/
def Obligations.HtControlAbsentReadsNothing : Prop :=
  ∀ (flags : Byte) (s : State), s.stage = .qosResolved → ∀ i ∈ Classes.version0 flags,
    (flags.getLsbD 7 = false ∨ i ∉ Classes.withHtOnOrder flags) →
      exec i s = .next { s with stage := .htResolved, fields := { s.fields with htValid := false } }

/-- R85, R86, R96: the body is what is left of the buffer but its last four bytes, skipped unread; with fewer than four left
the check raises `Truncated(H)`, the header length being written already. -/
def Obligations.BodyIsWhatIsLeftButFour : Prop :=
  ∀ (i : Instr) (s : State) (h : Nat), Statements.at s .htResolved h →
    (h + 4 ≤ s.len → exec i s = .next { s with
      stage := .bodyResolved
      cur := { byte := s.len - 4, bit := 0 }
      fields := { s.fields with hdrLen := h, bodyOff := h, bodyLen := s.len - h - 4 } }) ∧
    (s.len < h + 4 → exec i s = .next { s with
      stage := .failed
      status := .truncated
      errOffset := h
      fields := { s.fields with hdrLen := h } })

/-- R87, R97: the integrity field is the last four bytes, big-endian, never checked. -/
def Obligations.IntegrityFieldIsTheLastFourBytes : Prop :=
  ∀ (i : Instr) (s : State), 4 ≤ s.len → Statements.at s .bodyResolved (s.len - 4) →
    exec i s = .next { s with
      stage := .integrityFieldRead
      cur := { byte := s.len, bit := 0 }
      fields := { s.fields with
        fcs := s.buf.read (s.len - 4) ++ s.buf.read (s.len - 3) ++ s.buf.read (s.len - 2) ++ s.buf.read (s.len - 1) } }

/-- R98: the last transition. `STATUS` and `ERR_OFFSET` are 0, `DONE` is 1, and the result is the frame in the registers, with
the roles of R77. That the role registers are written in this transition is the model's choice (assumption log 6). -/
def Obligations.LastTransitionYieldsTheFrame : Prop :=
  ∀ (i : Instr) (s : State), s.stage = .integrityFieldRead → ∃ t, exec i s = .next t ∧
    t = { s with stage := .done, status := .ok, errOffset := 0, roles := roleTable i.frameControl } ∧
    t.done = true ∧ t.result = some (.ok (registersFrame t))

/-- R73, R107: an address that fits and that `ADDR_VALID` rejects raises `InvalidAddress` at its start, whatever the predicate;
one that does not fit raises `Truncated` first; an accepted one is returned as its bytes. That a rejected address leaves the
cursor past its six bytes is the model's reading, DEDUCED in assumption log 15: no rule gives the cursor's place there. -/
def Obligations.AddressConstructionIsChecked : Prop :=
  ∀ (cfg : Config) (s : State), s.cur.bit = 0 →
    let a : HwAddress := Vector.ofFn fun k => s.buf.read (s.cur.byte + k.val)
    let t := { s with cur := { byte := s.cur.byte + 6, bit := 0 } }
    (s.len < s.cur.byte + 6 → readAddress cfg s = .raised (.truncated s.cur.byte) s) ∧
    (s.cur.byte + 6 ≤ s.len → cfg.addrValid a = false → readAddress cfg s = .raised (.invalidAddress s.cur.byte) t) ∧
    (s.cur.byte + 6 ≤ s.len → cfg.addrValid a = true → readAddress cfg s = .ok a t)

/-! Failures, and what a transition leaves unchanged. -/

/-- R110: a raised failure sets `STATUS` to its code, `ERR_OFFSET` to its offset and `STATE` to `Failed`, and changes nothing
else of the state the raise left; no later stage runs: the machine stays so until the host acts. The cursor stays where the
failing read began: a BitCursor operation that raises leaves the whole state, and a step that fails with `Truncated` records
the byte its cursor is left at. Where the cursor stands when a check raises and no read failed is the model's reading, DEDUCED
in assumption log 15. -/
def Obligations.FailureEntryWritesOnlyTheResult : Prop :=
  (∀ (op : CursorOp) (e : DecodeError) (s t : State), runCursorOp op s = .raised e t →
    t = s ∧ e = .truncated s.cur.byte) ∧
  (∀ s t : State, step s = .next t → s.stage ≠ .failed → t.stage = .failed → t.status = .truncated →
    t.errOffset = t.cur.byte) ∧
  (∀ t : State, t.stage = .failed → t.hostNow = .quiet → step t = .next { t with host := t.host.tail }) ∧
  ∀ (e : DecodeError) (s : State) (g : Stage),
    settle g (.raised e s) = .next { s with
      stage := .failed
      status :=
        match e with
        | .truncated _ => .truncated
        | .unsupportedVersion _ => .unsupportedVersion
        | .invalidAddress _ => .invalidAddress
        | .inconsistentLength _ => .inconsistentLength
      errOffset :=
        match e with
        | .truncated off => off
        | .unsupportedVersion off => off
        | .invalidAddress off => off
        | .inconsistentLength off => off }

/-- R107, R108: on this hardware no step sets `STATUS` to `InvalidAddress`; and no transition sets it to
`InconsistentLength`, whatever the parameters. -/
def Obligations.UnreachableKindsAreNeverRaised : Prop :=
  (∀ s t : State, step s = .next t → t.status = .invalidAddress → s.status = .invalidAddress) ∧
  (∀ (cfg : Config) (fc : FrameControl) (s t : State), transition cfg fc s = .next t →
    t.status = .inconsistentLength → s.status = .inconsistentLength)

/-- R3, R28: no class writes the buffer, its length, or the host's ports: every byte reads as before. -/
def Obligations.NoClassWritesTheBuffer : Prop :=
  ∀ (i : Instr) (s t : State), exec i s = .next t →
    (∀ a, t.buf.read a = s.buf.read a) ∧ t.buf = s.buf ∧ t.len = s.len ∧ t.host = s.host

/-- R17, R18, R21, R22: which registers a transition may write, by the state it starts from. A failing one keeps to it too.
That the roles wait for the last transition is the model's choice (assumption log 6), and so is that `exec` leaves `Idle`, `Done`
and `Failed` as they are, where no transition starts (DESIGN CHOICE, assumption log 13). -/
def Obligations.EachTransitionWritesOnlyItsRegisters : Prop :=
  ∀ (i : Instr) (s t : State), exec i s = .next t →
    (s.stage ≠ .start → t.fc = s.fc) ∧
    (s.stage ≠ .integrityFieldRead → t.roles = s.roles) ∧
    (t.stage ≠ .failed → t.stage ≠ .done → t.status = s.status ∧ t.errOffset = s.errOffset) ∧
    match s.stage with
    | .idle => t = s
    | .start => t.fields = s.fields ∧ t.cur = s.cur
    | .frameControlDecoded =>
      t.fields = { s.fields with durationId := t.fields.durationId, addr1 := t.fields.addr1, addr2 := t.fields.addr2,
                                 addr3 := t.fields.addr3 }
    | .addressesDecoded =>
      t.fields = { s.fields with scFrag := t.fields.scFrag, scSeq := t.fields.scSeq, scValid := t.fields.scValid }
    | .sequenceControlResolved =>
      t.fields = { s.fields with addr4 := t.fields.addr4, addr4Valid := t.fields.addr4Valid }
    | .address4Resolved => t.fields = { s.fields with qos := t.fields.qos, qosValid := t.fields.qosValid }
    | .qosResolved => t.fields = { s.fields with ht := t.fields.ht, htValid := t.fields.htValid }
    | .htResolved =>
      t.fields = { s.fields with hdrLen := t.fields.hdrLen, bodyOff := t.fields.bodyOff, bodyLen := t.fields.bodyLen }
    | .bodyResolved => t.fields = { s.fields with fcs := t.fields.fcs }
    | .integrityFieldRead => t.fields = s.fields ∧ t.cur = s.cur
    | .done => t = s
    | .failed => t = s

/-- R15: a transition never moves the cursor back. -/
def Obligations.CursorOnlyMovesForward : Prop :=
  ∀ (i : Instr) (s t : State), exec i s = .next t →
    8 * s.cur.byte + s.cur.bit.val ≤ 8 * t.cur.byte + t.cur.bit.val

/-! The host's side. -/

/-- R25: every register at its reset value, spelled out, and reset leaves `BUF` and `L` as they are. What the classification
reads as is R25's own inference, which it marks 'derived: from rules R19, R65, R66'. R16: the twelve codes of `STATE`, of which
reset is the first. -/
def Obligations.ResetValuesAreTheTable : Prop :=
  ([.idle, .start, .frameControlDecoded, .addressesDecoded, .sequenceControlResolved, .address4Resolved, .qosResolved,
    .htResolved, .bodyResolved, .integrityFieldRead, .done, .failed] : List Stage).map Stage.code =
    [0, 1, 2, 3, 4, 5, 6, 7, 8, 9, 10, 11] ∧
  (∀ s : State, (hardReset s).buf = s.buf ∧ (hardReset s).len = s.len) ∧
  State.reset.stage = .idle ∧ State.reset.stage.code = 0 ∧
  State.reset.cur = { byte := 0, bit := 0 } ∧
  State.reset.fc = { version := 0, type := 0, subtype := 0, flags := 0x00 } ∧
  family State.reset.fc = .control ∧ subkind State.reset.fc = .control (.reserved 0) ∧
  subReserved (subkind State.reset.fc) = true ∧
  State.reset.fields =
    { durationId := 0, addr1 := #v[0, 0, 0, 0, 0, 0], addr2 := #v[0, 0, 0, 0, 0, 0], addr3 := #v[0, 0, 0, 0, 0, 0],
      addr4 := #v[0, 0, 0, 0, 0, 0], addr4Valid := false, scValid := false, scFrag := 0, scSeq := 0, qosValid := false,
      qos := 0, htValid := false, ht := 0, hdrLen := 0, bodyOff := 0, bodyLen := 0, fcs := 0 } ∧
  State.reset.roles = { role1 := 0, role2 := 0, role3 := 0, role4 := 0 } ∧
  State.reset.done = false ∧ State.reset.status.code = 0 ∧ State.reset.errOffset = 0

/-- R89: a request in `Idle`, `Done` or `Failed` puts every register to its reset value, takes the presented frame as `BUF` and
its length as `L`, and enters `Start`. -/
def Obligations.AcceptedRequestStartsAfresh : Prop :=
  ∀ (s : State) (frame : List Byte), (s.stage = .idle ∨ s.stage = .done ∨ s.stage = .failed) →
    s.hostNow = .request frame → ∃ t, step s = .next t ∧
      t = { State.reset with stage := .start, buf := t.buf, len := frame.length, host := s.host.tail } ∧
      ∀ a, (h : a < frame.length) → t.buf.read a = frame[a]

/-- R122: a request while busy is ignored: the step is the one it would be without it. -/
def Obligations.RequestWhileBusyIsIgnored : Prop :=
  ∀ (s : State) (frame : List Byte) (rest : List HostEvent), s.stage ≠ .idle → s.stage ≠ .done → s.stage ≠ .failed →
    step (s.setHost (.request frame :: rest)) = step (s.setHost (.quiet :: rest))

/-- R118: reset, at any point of a transaction, puts every register to its reset value and leaves the inputs. -/
def Obligations.ResetAbandonsTheTransaction : Prop :=
  ∀ s : State, s.hostNow = .reset →
    step s = .next { State.reset with buf := s.buf, len := s.len, host := s.host.tail }

/-- R16, R112: without a request or a reset, `Idle`, `Done` and `Failed` stay as they are. -/
def Obligations.OnlyARequestLeavesAWaitingState : Prop :=
  ∀ s : State, (s.stage = .idle ∨ s.stage = .done ∨ s.stage = .failed) → s.hostNow = .quiet →
    step s = .next { s with host := s.host.tail }

/-- R111, R120: no output but `done` before `DONE = 1`; after a success the frame, each optional field only where its valid bit
is 1; after a failure the error and its offset alone. R104: the code each error shows. R19: the classification outputs, which
are the type code, whether the subtype is `Reserved`, and the bits of a Data subtype. -/
def Obligations.HostSeesOnlyWhatIsValid : Prop :=
  ∀ s : State,
    ((s.stage = .done ∨ s.stage = .failed) → s.status = .ok →
      s.result = some (.ok (registersFrame s)) ∧
      ∃ f, s.ports = { done := true, status := some 0, errOffset := some s.errOffset, frame := some f } ∧
        f = registersPorts s ∧
        f.familyCode = s.fc.type ∧
        (f.subReserved = true ↔ ∃ code, subkind s.fc = .control (.reserved code) ∨
          subkind s.fc = .management (.reserved code) ∨ subkind s.fc = .extension (.reserved code)) ∧
        f.dataBits = (if s.fc.type = 2 then
            some { ack := s.fc.subtype.getLsbD 0, poll := s.fc.subtype.getLsbD 1, null := s.fc.subtype.getLsbD 2,
                   qos := s.fc.subtype.getLsbD 3, hasData := !s.fc.subtype.getLsbD 2 }
          else none) ∧
        f.addr4 = (if s.fields.addr4Valid then some s.fields.addr4 else none) ∧
        f.scFrag = (if s.fields.scValid then some s.fields.scFrag else none) ∧
        f.scSeq = (if s.fields.scValid then some s.fields.scSeq else none) ∧
        f.qos = (if s.fields.qosValid then some s.fields.qos else none) ∧
        f.ht = (if s.fields.htValid then some s.fields.ht else none)) ∧
    ((s.stage ≠ .done ∧ s.stage ≠ .failed) →
      s.result = none ∧ s.ports = { done := false, status := none, errOffset := none, frame := none }) ∧
    ((s.stage = .done ∨ s.stage = .failed) →
      (s.status = .truncated → s.result = some (.err (.truncated s.errOffset)) ∧
        s.ports = { done := true, status := some 1, errOffset := some s.errOffset, frame := none }) ∧
      (s.status = .unsupportedVersion → s.result = some (.err (.unsupportedVersion s.errOffset)) ∧
        s.ports = { done := true, status := some 2, errOffset := some s.errOffset, frame := none }) ∧
      (s.status = .invalidAddress → s.result = some (.err (.invalidAddress s.errOffset)) ∧
        s.ports = { done := true, status := some 3, errOffset := some s.errOffset, frame := none }) ∧
      (s.status = .inconsistentLength → s.result = some (.err (.inconsistentLength s.errOffset)) ∧
        s.ports = { done := true, status := some 4, errOffset := some s.errOffset, frame := none }))

/-! Whole transactions. -/

/-- The invariant of Safety.lean holds right after reset. -/
def Obligations.ResetStateMeetsTheInvariant : Prop := Safety.Inv State.reset

/-- Every step keeps the invariant of Safety.lean, from every state that meets it, whatever the host does. Its clause on the
roles, and its clause that absent registers hold their reset value, follow the model's choices (assumption log 6 and 15). -/
def Obligations.EveryStepKeepsTheInvariant : Prop :=
  ∀ s t : State, Safety.Inv s → step s = .next t → Safety.Inv t

/-- R102, R112, R114: from every state that meets the invariant, the step answers a next state: no internal fault and no
refusal is ever reached. -/
def Obligations.EveryStepFromTheInvariantAnswers : Prop :=
  ∀ s : State, Safety.Inv s → ∃ t, step s = .next t

/-- R100: on every frame, from every waiting state, the run of the state machine ends with the result that `decode` gives. -/
def Obligations.RunEndsWithTheDecodedResult : Prop :=
  ∀ (s : State) (frame : List Byte), s.stage.waiting = true →
    ∃ t, Statements.runs s frame t ∧ t.result = some (decode hardware (Memory.ofBytes frame) frame.length)

/-- R7, R14, R100: the same with `LEN_MAX`, `ADDR_VALID` and `HT_PRESENT` as arguments. This hardware's step is the parametrized
one at its defaults; a step keeps `L` within `LEN_MAX`; the transaction on a frame that `LEN_MAX` admits ends with what `decode`
gives for the same parameters, and is the run of the parametrized machine. That a longer frame is refused, by name, is the
model's choice (DESIGN CHOICE, assumption log 23). -/
def Obligations.TransactionDecodesForEveryParameter : Prop :=
  (∀ s : State, stepWith hardware s = step s) ∧
  ∀ (cfg : Config) (s : State) (frame : List Byte),
    ((∀ m, cfg.lenMax = some m → frame.length ≤ m) →
      ∃ t, transaction cfg frame s = .next t ∧ t.result = some (decode cfg (Memory.ofBytes frame) frame.length)) ∧
    (∀ m, cfg.lenMax = some m → m < frame.length →
      transaction cfg frame s = .refused (.lenMax frame.length) ∧
      (s.stage.waiting = true → stepWith cfg (s.setHost [.request frame]) = .refused (.lenMax frame.length))) ∧
    (s.stage.waiting = true →
      (coreWith cfg).run 10 (s.setHost [.request frame]) = transaction cfg frame (s.setHost [])) ∧
    (∀ (m : Nat) (t : State), cfg.lenMax = some m → s.len ≤ m → stepWith cfg s = .next t → t.len ≤ m)

/-- R102: `Done` is reached in exactly nine transitions after the request's step, or `Failed` in at most seven. -/
def Obligations.NineTransitionsOrAtMostSeven : Prop :=
  ∀ (s : State) (frame : List Byte), s.stage.waiting = true →
    ∃ n u, Sys2Proof.core.run (1 + n) (s.setHost [.request frame]) = .next u ∧
      ((u.stage = .done ∧ n = 9) ∨ (u.stage = .failed ∧ 1 ≤ n ∧ n ≤ 7)) ∧
      ∀ k, k < n → ∃ v, Sys2Proof.core.run (1 + k) (s.setHost [.request frame]) = .next v ∧ v.done = false

/-- R13, R103: nothing of what went before can be seen: from any two waiting states the same frame runs to the same state. -/
def Obligations.NothingSurvivesARequest : Prop :=
  ∀ (s u : State) (frame : List Byte) (n : Nat), s.stage.waiting = true → u.stage.waiting = true →
    Sys2Proof.core.run (1 + n) (s.setHost [.request frame]) = Sys2Proof.core.run (1 + n) (u.setHost [.request frame])

/-- R26: the six invariants of a successful result. The last three, on `SC_VALID`, `HT_VALID` and `BODY_OFF`, are R26's own
inference, which it marks 'derived: from rules R78, R82, R85, R86'. -/
def Obligations.SuccessfulResultsMeetTheirInvariants : Prop :=
  ∀ (s t : State) (frame : List Byte), s.stage.waiting = true → Statements.runs s frame t → t.status = .ok →
    t.fields.addr4Valid = (toDs t.fc && fromDs t.fc) ∧
    t.fields.qosValid = (family t.fc == .data && qosBit t.fc) ∧
    t.fields.hdrLen + t.fields.bodyLen + 4 = t.len ∧
    t.fields.scValid = (family t.fc == .management || family t.fc == .data) ∧
    t.fields.htValid = pHt hardware t.fc ∧
    t.fields.bodyOff = t.fields.hdrLen

/-- R105: a buffer of fewer than two bytes fails at 0. For a longer one and version 0, the failure is at the smallest offset of a
present field that does not fit; when every field fits and fewer than four bytes follow the header, it is at the header's end;
else it decodes. The closed form is R105's own inference, which it marks 'derived: from the rules in the table and rule R109'. -/
def Obligations.TruncationHasItsClosedForm : Prop :=
  ∀ (s t : State) (frame : List Byte), s.stage.waiting = true → Statements.runs s frame t →
    (frame.length < 2 → t.result = some (.err (.truncated 0))) ∧
    (2 ≤ frame.length → (bufferControl (Memory.ofBytes frame)).version = 0 →
      let fc := bufferControl (Memory.ofBytes frame)
      let cut := (Statements.presentFields fc).filter fun f => decide (frame.length < f.1 + f.2)
      (cut ≠ [] → ∃ f ∈ cut, t.result = some (.err (.truncated f.1)) ∧ ∀ g ∈ cut, f.1 ≤ g.1) ∧
      (cut = [] → frame.length < headerLen hardware fc + 4 →
        t.result = some (.err (.truncated (headerLen hardware fc)))) ∧
      (cut = [] → headerLen hardware fc + 4 ≤ frame.length → t.stage = .done))

/-- R6, R52: a frame of a version-0 class decodes exactly when it is at least as long as its header and the integrity field,
with the header lengths of R52's table; no shorter buffer than 26 bytes does. -/
def Obligations.ClassesDecodeFromTheirShortestLength : Prop :=
  ∀ (s : State) (flags : Byte) (rest : List Byte), s.stage.waiting = true → ∀ i ∈ Classes.version0 flags,
    let a4 := if flags.getLsbD 0 && flags.getLsbD 1 then 6 else 0
    let ht := if flags.getLsbD 7 && decide (i ∈ Classes.withHtOnOrder flags) then 4 else 0
    let fixed := if i ∈ Classes.withQos flags then 26 else if i ∈ Classes.withSequence flags then 24 else 22
    ∃ t, Statements.runs s (encode i ++ rest) t ∧
      (t.stage = .done ↔ fixed + a4 + ht + 4 ≤ (encode i ++ rest).length) ∧
      (t.stage = .done → t.fields.hdrLen = fixed + a4 + ht ∧ t.fc = i.frameControl) ∧
      ((encode i ++ rest).length < 26 → t.stage = .failed)

/-- R76, R84: `more_fragments`, `retry`, `power_mgmt`, `more_data` and `protected` affect nothing: frames that differ in these
bits alone run to states that differ in `FC_FLAGS` and the buffer alone. -/
def Obligations.FiveFlagsAffectNothing : Prop :=
  ∀ (s : State) (fc0 f g : Byte) (rest : List Byte), s.stage.waiting = true → f &&& 0x83 = g &&& 0x83 →
    ∃ t u, Statements.runs s (fc0 :: f :: rest) t ∧ Statements.runs s (fc0 :: g :: rest) u ∧
      Statements.withoutFlags t = Statements.withoutFlags u

end
end

