-- ==== Sys2Proof/Laws/Memory.lean ====
section
/-! SUPPORT. The laws of the input buffer: reads after writes, the canonical form, and what a run of bits is worth. -/

namespace Sys2Proof.Machine

@[simp] theorem Memory.read_nil (a : Nat) : Memory.read [] a = Memory.unlisted := rfl

theorem Memory.read_cons (k a : Nat) (v : Byte) (m : Memory) :
    Memory.read ((k, v) :: m) a = if k = a then v else m.read a := rfl

theorem Memory.wfFrom_cons (lo k : Nat) (v : Byte) (m : Memory) :
    Memory.wfFrom lo ((k, v) :: m) = true ↔ lo ≤ k ∧ v ≠ Memory.unlisted ∧ m.wfFrom (k + 1) = true := by
  simp [Memory.wfFrom, and_assoc]

/-- A lower bound may be lowered. -/
theorem Memory.wfFrom_mono {lo lo' : Nat} {m : Memory} (hle : lo' ≤ lo) (h : m.wfFrom lo = true) :
    m.wfFrom lo' = true := by
  cases m with
  | nil => rfl
  | cons c m =>
    obtain ⟨k, v⟩ := c
    rw [Memory.wfFrom_cons] at h ⊢
    exact ⟨by omega, h.2⟩

/-- Below the lower bound nothing is listed. -/
theorem Memory.read_below {lo a : Nat} {m : Memory} (h : m.wfFrom lo = true) (ha : a < lo) :
    m.read a = Memory.unlisted := by
  induction m generalizing lo with
  | nil => rfl
  | cons c m ih =>
    obtain ⟨k, v⟩ := c
    rw [Memory.wfFrom_cons] at h
    rw [Memory.read_cons, if_neg (by omega)]
    exact ih h.2.2 (by omega)

/-- A write keeps the canonical form from a lower bound on. -/
theorem Memory.write_wfFrom {lo a : Nat} {v : Byte} {m : Memory} (h : m.wfFrom lo = true) (ha : lo ≤ a) :
    (m.write a v).wfFrom lo = true := by
  induction m generalizing lo with
  | nil => by_cases hv : v = Memory.unlisted <;> simp [Memory.write, Memory.wfFrom, hv, ha]
  | cons c m ih =>
    obtain ⟨k, w⟩ := c
    have hc := h
    rw [Memory.wfFrom_cons] at hc
    unfold Memory.write
    split_ifs with h1 h2 h3 h4
    · exact h
    · rw [Memory.wfFrom_cons, Memory.wfFrom_cons]
      exact ⟨ha, h2, by omega, hc.2⟩
    · exact Memory.wfFrom_mono (by omega) hc.2.2
    · rw [Memory.wfFrom_cons]
      exact ⟨ha, h4, h3 ▸ hc.2.2⟩
    · rw [Memory.wfFrom_cons]
      exact ⟨hc.1, hc.2.1, ih hc.2.2 (by omega)⟩

/-- A write keeps the canonical form. -/
theorem Memory.write_wf {a : Nat} {v : Byte} {m : Memory} (h : m.wf = true) : (m.write a v).wf = true :=
  Memory.write_wfFrom h (Nat.zero_le a)

/-- Reading after a write: the byte written at its own offset, every other offset as before. -/
theorem Memory.read_write {lo a b : Nat} {v : Byte} {m : Memory} (h : m.wfFrom lo = true) :
    (m.write a v).read b = if b = a then v else m.read b := by
  induction m generalizing lo with
  | nil =>
    unfold Memory.write
    split_ifs with hv hb hb
    · rw [Memory.read_nil, hv]
    · rfl
    · rw [Memory.read_cons, if_pos hb.symm]
    · rw [Memory.read_cons, if_neg (Ne.symm hb)]
  | cons c m ih =>
    obtain ⟨k, w⟩ := c
    rw [Memory.wfFrom_cons] at h
    unfold Memory.write
    by_cases h1 : a < k
    · by_cases hv : v = Memory.unlisted
      · rw [if_pos h1, if_pos hv]
        by_cases hb : b = a
        · rw [if_pos hb, Memory.read_cons, if_neg (by omega), Memory.read_below h.2.2 (by omega), hv]
        · rw [if_neg hb]
      · rw [if_pos h1, if_neg hv, Memory.read_cons]
        by_cases hb : b = a
        · rw [if_pos hb, if_pos hb.symm]
        · rw [if_neg hb, if_neg (Ne.symm hb)]
    · rw [if_neg h1]
      by_cases h2 : a = k
      · subst h2
        rw [if_pos rfl, Memory.read_cons]
        by_cases hv : v = Memory.unlisted
        · rw [if_pos hv]
          by_cases hb : b = a
          · rw [if_pos hb, Memory.read_below h.2.2 (by omega), hv]
          · rw [if_neg hb, if_neg (Ne.symm hb)]
        · rw [if_neg hv, Memory.read_cons]
          by_cases hb : b = a
          · rw [if_pos hb, if_pos hb.symm]
          · rw [if_neg hb, if_neg (Ne.symm hb), if_neg (Ne.symm hb)]
      · rw [if_neg h2, Memory.read_cons, Memory.read_cons, ih h.2.2]
        by_cases hb : b = a
        · have hk : k ≠ b := by omega
          simp only [hb ▸ hk, hb, if_true, if_false]
        · simp only [hb, if_false]

/-- A frame laid out is in canonical form. -/
theorem Memory.layOut_wfFrom (off : Nat) (frame : List Byte) : (Memory.layOut off frame).wfFrom off = true := by
  induction frame generalizing off with
  | nil => rfl
  | cons b bs ih =>
    unfold Memory.layOut
    split_ifs with h
    · exact Memory.wfFrom_mono (Nat.le_succ off) (ih (off + 1))
    · rw [Memory.wfFrom_cons]; exact ⟨le_rfl, h, ih (off + 1)⟩

/-- A presented frame is in canonical form. -/
theorem Memory.ofBytes_wf (frame : List Byte) : (Memory.ofBytes frame).wf = true :=
  Memory.layOut_wfFrom 0 frame

/-- A laid-out frame reads back as its bytes. -/
theorem Memory.read_layOut (off a : Nat) (frame : List Byte) :
    (Memory.layOut off frame).read (off + a) = frame.getD a Memory.unlisted := by
  induction frame generalizing off a with
  | nil => simp [Memory.layOut]
  | cons b bs ih =>
    unfold Memory.layOut
    cases a with
    | zero =>
      split_ifs with h
      · rw [Memory.read_below (Memory.layOut_wfFrom (off + 1) bs) (by omega)]; simp [h]
      · simp [Memory.read_cons]
    | succ a =>
      have hi : off + (a + 1) = off + 1 + a := by omega
      split_ifs with h
      · rw [hi, ih]; simp
      · rw [Memory.read_cons, if_neg (by omega), hi, ih]; simp

/-- `BUF[a]` of a presented frame is its byte `a`. -/
theorem Memory.read_ofBytes (frame : List Byte) (a : Nat) :
    (Memory.ofBytes frame).read a = frame.getD a Memory.unlisted := by
  have h := Memory.read_layOut 0 a frame
  rwa [Nat.zero_add] at h

theorem Memory.inside_cons (n k : Nat) (v : Byte) (m : Memory) :
    Memory.inside n ((k, v) :: m) = true ↔ k < n ∧ m.inside n = true := by
  simp [Memory.inside]

/-- A laid-out frame lists no offset outside itself. -/
theorem Memory.layOut_inside (off n : Nat) (frame : List Byte) (h : off + frame.length ≤ n) :
    (Memory.layOut off frame).inside n = true := by
  induction frame generalizing off with
  | nil => rfl
  | cons b bs ih =>
    simp only [List.length_cons] at h
    unfold Memory.layOut
    split_ifs
    · exact ih (off + 1) (by omega)
    · rw [Memory.inside_cons]; exact ⟨by omega, ih (off + 1) (by omega)⟩

theorem Memory.ofBytes_inside (frame : List Byte) : (Memory.ofBytes frame).inside frame.length = true :=
  Memory.layOut_inside 0 frame.length frame (by omega)

/-- Bit `i` of a run of `n` bits is the buffer's bit `p + (n - 1 - i)`: the first bit is the most significant (R55). -/
theorem Memory.getLsbD_bits (m : Memory) (p n i : Nat) (h : i < n) :
    (m.bits p n).getLsbD i = m.bit (p + (n - 1 - i)) := by
  induction n generalizing i with
  | zero => omega
  | succ n ih =>
    unfold Memory.bits
    rw [BitVec.getLsbD_concat]
    cases i with
    | zero => simp
    | succ i =>
      simp only [Nat.add_one_ne_zero, if_false, Nat.add_sub_cancel]
      rw [ih i (by omega)]
      congr 2
      omega

/-- The bit of byte `o` that stands `j` from its least significant end. -/
theorem Memory.bit_byte (m : Memory) (o j : Nat) (h : j < 8) : m.bit (8 * o + (7 - j)) = (m.read o).getLsbD j := by
  unfold Memory.bit
  rw [show (8 * o + (7 - j)) / 8 = o by omega, show 7 - (8 * o + (7 - j)) % 8 = j by omega]

/-- Eight aligned bits are the byte. -/
theorem Memory.bits_byte (m : Memory) (o : Nat) : m.bits (8 * o) 8 = m.read o := by
  apply BitVec.eq_of_getLsbD_eq
  intro i hi
  rw [Memory.getLsbD_bits m _ _ i hi, show 8 - 1 - i = 7 - i by omega, Memory.bit_byte m o i hi]

/-- A run of bits in two parts: the first part is the more significant (R55). -/
theorem Memory.bits_append (m : Memory) (p a b : Nat) : m.bits p (a + b) = m.bits p a ++ m.bits (p + a) b := by
  apply BitVec.eq_of_getLsbD_eq
  intro i hi
  rw [BitVec.getLsbD_append, Memory.getLsbD_bits m _ _ i hi]
  split_ifs with hb
  · rw [Memory.getLsbD_bits m _ _ i hb]; congr 1; omega
  · rw [Memory.getLsbD_bits m _ _ (i - b) (by omega)]; congr 1; omega

/-- Sixteen aligned bits are the big-endian 16-bit integer (R30, R55). -/
theorem Memory.bits_read16 (m : Memory) (o : Nat) : m.bits (8 * o) 16 = m.read16 o := by
  have h := Memory.bits_append m (8 * o) 8 8
  rw [show 8 * o + 8 = 8 * (o + 1) by omega, Memory.bits_byte, Memory.bits_byte] at h
  exact h

/-- Thirty-two aligned bits are the big-endian 32-bit integer (R30, R55). -/
theorem Memory.bits_read32 (m : Memory) (o : Nat) : m.bits (8 * o) 32 = m.read32 o := by
  have h := Memory.bits_append m (8 * o) 24 8
  have h2 := Memory.bits_append m (8 * o) 16 8
  rw [Memory.bits_read16, show 8 * o + 16 = 8 * (o + 2) by omega, Memory.bits_byte] at h2
  rw [show 8 * o + 24 = 8 * (o + 3) by omega, Memory.bits_byte, h2] at h
  exact h

/-- The first four of sixteen aligned bits (R47). -/
theorem Memory.bits_high4 (m : Memory) (o : Nat) : m.bits (8 * o) 4 = (m.read16 o).extractLsb' 12 4 := by
  rw [← Memory.bits_read16, Memory.bits_append m (8 * o) 4 12]
  apply BitVec.eq_of_getLsbD_eq
  intro i hi
  rw [BitVec.getLsbD_extractLsb', BitVec.getLsbD_append]
  simp [hi]

/-- The last twelve of sixteen aligned bits (R47). -/
theorem Memory.bits_low12 (m : Memory) (o : Nat) : m.bits (8 * o + 4) 12 = (m.read16 o).extractLsb' 0 12 := by
  rw [← Memory.bits_read16, Memory.bits_append m (8 * o) 4 12]
  apply BitVec.eq_of_getLsbD_eq
  intro i hi
  rw [BitVec.getLsbD_extractLsb', BitVec.getLsbD_append]
  simp [hi]

end Sys2Proof.Machine
end

