-- ==== Sys2Proof/Laws/State.lean ====
section
/-! SUPPORT. One lemma per field per update of State, so that no proof unfolds a record update. -/

namespace Sys2Proof.Machine.State

variable (s : State)

@[simp] theorem setStage_stage (x : Stage) : (s.setStage x).stage = x := rfl
@[simp] theorem setStage_cur (x : Stage) : (s.setStage x).cur = s.cur := rfl
@[simp] theorem setStage_fc (x : Stage) : (s.setStage x).fc = s.fc := rfl
@[simp] theorem setStage_fields (x : Stage) : (s.setStage x).fields = s.fields := rfl
@[simp] theorem setStage_roles (x : Stage) : (s.setStage x).roles = s.roles := rfl
@[simp] theorem setStage_status (x : Stage) : (s.setStage x).status = s.status := rfl
@[simp] theorem setStage_errOffset (x : Stage) : (s.setStage x).errOffset = s.errOffset := rfl
@[simp] theorem setStage_buf (x : Stage) : (s.setStage x).buf = s.buf := rfl
@[simp] theorem setStage_len (x : Stage) : (s.setStage x).len = s.len := rfl
@[simp] theorem setStage_host (x : Stage) : (s.setStage x).host = s.host := rfl

@[simp] theorem setCur_stage (x : Cursor) : (s.setCur x).stage = s.stage := rfl
@[simp] theorem setCur_cur (x : Cursor) : (s.setCur x).cur = x := rfl
@[simp] theorem setCur_fc (x : Cursor) : (s.setCur x).fc = s.fc := rfl
@[simp] theorem setCur_fields (x : Cursor) : (s.setCur x).fields = s.fields := rfl
@[simp] theorem setCur_roles (x : Cursor) : (s.setCur x).roles = s.roles := rfl
@[simp] theorem setCur_status (x : Cursor) : (s.setCur x).status = s.status := rfl
@[simp] theorem setCur_errOffset (x : Cursor) : (s.setCur x).errOffset = s.errOffset := rfl
@[simp] theorem setCur_buf (x : Cursor) : (s.setCur x).buf = s.buf := rfl
@[simp] theorem setCur_len (x : Cursor) : (s.setCur x).len = s.len := rfl
@[simp] theorem setCur_host (x : Cursor) : (s.setCur x).host = s.host := rfl

@[simp] theorem setFc_stage (x : FrameControl) : (s.setFc x).stage = s.stage := rfl
@[simp] theorem setFc_cur (x : FrameControl) : (s.setFc x).cur = s.cur := rfl
@[simp] theorem setFc_fc (x : FrameControl) : (s.setFc x).fc = x := rfl
@[simp] theorem setFc_fields (x : FrameControl) : (s.setFc x).fields = s.fields := rfl
@[simp] theorem setFc_roles (x : FrameControl) : (s.setFc x).roles = s.roles := rfl
@[simp] theorem setFc_status (x : FrameControl) : (s.setFc x).status = s.status := rfl
@[simp] theorem setFc_errOffset (x : FrameControl) : (s.setFc x).errOffset = s.errOffset := rfl
@[simp] theorem setFc_buf (x : FrameControl) : (s.setFc x).buf = s.buf := rfl
@[simp] theorem setFc_len (x : FrameControl) : (s.setFc x).len = s.len := rfl
@[simp] theorem setFc_host (x : FrameControl) : (s.setFc x).host = s.host := rfl

@[simp] theorem setFields_stage (x : Fields) : (s.setFields x).stage = s.stage := rfl
@[simp] theorem setFields_cur (x : Fields) : (s.setFields x).cur = s.cur := rfl
@[simp] theorem setFields_fc (x : Fields) : (s.setFields x).fc = s.fc := rfl
@[simp] theorem setFields_fields (x : Fields) : (s.setFields x).fields = x := rfl
@[simp] theorem setFields_roles (x : Fields) : (s.setFields x).roles = s.roles := rfl
@[simp] theorem setFields_status (x : Fields) : (s.setFields x).status = s.status := rfl
@[simp] theorem setFields_errOffset (x : Fields) : (s.setFields x).errOffset = s.errOffset := rfl
@[simp] theorem setFields_buf (x : Fields) : (s.setFields x).buf = s.buf := rfl
@[simp] theorem setFields_len (x : Fields) : (s.setFields x).len = s.len := rfl
@[simp] theorem setFields_host (x : Fields) : (s.setFields x).host = s.host := rfl

@[simp] theorem setRoles_stage (x : Roles) : (s.setRoles x).stage = s.stage := rfl
@[simp] theorem setRoles_cur (x : Roles) : (s.setRoles x).cur = s.cur := rfl
@[simp] theorem setRoles_fc (x : Roles) : (s.setRoles x).fc = s.fc := rfl
@[simp] theorem setRoles_fields (x : Roles) : (s.setRoles x).fields = s.fields := rfl
@[simp] theorem setRoles_roles (x : Roles) : (s.setRoles x).roles = x := rfl
@[simp] theorem setRoles_status (x : Roles) : (s.setRoles x).status = s.status := rfl
@[simp] theorem setRoles_errOffset (x : Roles) : (s.setRoles x).errOffset = s.errOffset := rfl
@[simp] theorem setRoles_buf (x : Roles) : (s.setRoles x).buf = s.buf := rfl
@[simp] theorem setRoles_len (x : Roles) : (s.setRoles x).len = s.len := rfl
@[simp] theorem setRoles_host (x : Roles) : (s.setRoles x).host = s.host := rfl

@[simp] theorem setResult_stage (x : Status) (y : Nat) : (s.setResult x y).stage = s.stage := rfl
@[simp] theorem setResult_cur (x : Status) (y : Nat) : (s.setResult x y).cur = s.cur := rfl
@[simp] theorem setResult_fc (x : Status) (y : Nat) : (s.setResult x y).fc = s.fc := rfl
@[simp] theorem setResult_fields (x : Status) (y : Nat) : (s.setResult x y).fields = s.fields := rfl
@[simp] theorem setResult_roles (x : Status) (y : Nat) : (s.setResult x y).roles = s.roles := rfl
@[simp] theorem setResult_status (x : Status) (y : Nat) : (s.setResult x y).status = x := rfl
@[simp] theorem setResult_errOffset (x : Status) (y : Nat) : (s.setResult x y).errOffset = y := rfl
@[simp] theorem setResult_buf (x : Status) (y : Nat) : (s.setResult x y).buf = s.buf := rfl
@[simp] theorem setResult_len (x : Status) (y : Nat) : (s.setResult x y).len = s.len := rfl
@[simp] theorem setResult_host (x : Status) (y : Nat) : (s.setResult x y).host = s.host := rfl

@[simp] theorem setInput_stage (x : Memory) (y : Nat) : (s.setInput x y).stage = s.stage := rfl
@[simp] theorem setInput_cur (x : Memory) (y : Nat) : (s.setInput x y).cur = s.cur := rfl
@[simp] theorem setInput_fc (x : Memory) (y : Nat) : (s.setInput x y).fc = s.fc := rfl
@[simp] theorem setInput_fields (x : Memory) (y : Nat) : (s.setInput x y).fields = s.fields := rfl
@[simp] theorem setInput_roles (x : Memory) (y : Nat) : (s.setInput x y).roles = s.roles := rfl
@[simp] theorem setInput_status (x : Memory) (y : Nat) : (s.setInput x y).status = s.status := rfl
@[simp] theorem setInput_errOffset (x : Memory) (y : Nat) : (s.setInput x y).errOffset = s.errOffset := rfl
@[simp] theorem setInput_buf (x : Memory) (y : Nat) : (s.setInput x y).buf = x := rfl
@[simp] theorem setInput_len (x : Memory) (y : Nat) : (s.setInput x y).len = y := rfl
@[simp] theorem setInput_host (x : Memory) (y : Nat) : (s.setInput x y).host = s.host := rfl

@[simp] theorem setHost_stage (x : List HostEvent) : (s.setHost x).stage = s.stage := rfl
@[simp] theorem setHost_cur (x : List HostEvent) : (s.setHost x).cur = s.cur := rfl
@[simp] theorem setHost_fc (x : List HostEvent) : (s.setHost x).fc = s.fc := rfl
@[simp] theorem setHost_fields (x : List HostEvent) : (s.setHost x).fields = s.fields := rfl
@[simp] theorem setHost_roles (x : List HostEvent) : (s.setHost x).roles = s.roles := rfl
@[simp] theorem setHost_status (x : List HostEvent) : (s.setHost x).status = s.status := rfl
@[simp] theorem setHost_errOffset (x : List HostEvent) : (s.setHost x).errOffset = s.errOffset := rfl
@[simp] theorem setHost_buf (x : List HostEvent) : (s.setHost x).buf = s.buf := rfl
@[simp] theorem setHost_len (x : List HostEvent) : (s.setHost x).len = s.len := rfl
@[simp] theorem setHost_host (x : List HostEvent) : (s.setHost x).host = x := rfl

end Sys2Proof.Machine.State
end

