-- ==== Sys2Proof/Laws/Ops.lean ====
section
/-! SUPPORT. What each shared operation can do, said once: callers cite these and do not unfold the operations. -/

namespace Sys2Proof.Machine

variable {α β : Type}

@[simp] theorem Res.andThen_ok (a : α) (s : State) (k : α → State → Res β) : (Res.ok a s).andThen k = k a s := rfl
@[simp] theorem Res.andThen_raised (e : DecodeError) (s : State) (k : α → State → Res β) :
    (Res.raised e s).andThen k = .raised e s := rfl
@[simp] theorem Res.andThen_fault (f : Fault) (k : α → State → Res β) : (Res.fault f).andThen k = .fault f := rfl
@[simp] theorem Res.andThen_refused (r : Refusal) (k : α → State → Res β) : (Res.refused r).andThen k = .refused r := rfl

theorem settle_ok (g : Stage) (u : Unit) (s : State) : settle g (.ok u s) = .next (s.setStage g) := rfl
theorem settle_raised (g : Stage) (e : DecodeError) (s : State) : settle g (.raised e s) = .next (failureEntry e s) := rfl

/-! The cursor. -/

@[simp] theorem Cursor.atByte_byte (b : Nat) : (Cursor.atByte b).byte = b := rfl
@[simp] theorem Cursor.atByte_bit (b : Nat) : (Cursor.atByte b).bit = 0 := rfl

theorem Cursor.eq_atByte {c : Cursor} (h : c.bit = 0) : c = Cursor.atByte c.byte := by
  cases c; cases h; rfl

theorem Cursor.ofBitPos_aligned (b : Nat) : Cursor.ofBitPos (8 * b) = Cursor.atByte b := by
  unfold Cursor.ofBitPos Cursor.atByte
  congr 1
  · omega
  · apply Fin.ext; simp

theorem State.bitPos_aligned {s : State} (h : s.cur.bit = 0) : s.bitPos = 8 * s.cur.byte := by
  unfold State.bitPos; rw [h]; rfl

/-! The BitCursor operations on an aligned cursor. -/

theorem byteAlign_aligned {s : State} (h : s.cur.bit = 0) : byteAlign s = .ok () s := if_pos h

theorem byteAlign_misaligned {s : State} (h : s.cur.bit ≠ 0) : byteAlign s = .fault .misaligned := if_neg h

/-- All that `take_bits` can do (R55, R61). -/
theorem takeBits_cases (n : Nat) (s : State) :
    (takeBitsWidth n = false ∧ takeBits n s = .refused (.takeBitsWidth n)) ∨
    (takeBitsWidth n = true ∧ 8 * s.len < s.bitPos + n ∧ takeBits n s = .raised (.truncated s.cur.byte) s) ∨
    (takeBitsWidth n = true ∧ s.bitPos + n ≤ 8 * s.len ∧
      takeBits n s = .ok (s.buf.bits s.bitPos n) (s.setCur (Cursor.ofBitPos (s.bitPos + n)))) := by
  unfold takeBits
  by_cases hw : takeBitsWidth n = true
  · by_cases hl : 8 * s.len < s.bitPos + n
    · exact .inr (.inl ⟨hw, hl, by rw [if_pos hw, if_pos hl]⟩)
    · exact .inr (.inr ⟨hw, Nat.le_of_not_lt hl, by rw [if_pos hw, if_neg hl]⟩)
  · exact .inl ⟨by simpa using hw, if_neg hw⟩

/-- `take_bytes` on an aligned cursor (R58). -/
theorem takeBytes_aligned (n : Nat) {s : State} (h : s.cur.bit = 0) :
    takeBytes n s =
      if s.len < s.cur.byte + n then .raised (.truncated s.cur.byte) s
      else .ok (s.buf.bytes s.cur.byte n) (s.setCur (Cursor.atByte (s.cur.byte + n))) := by
  unfold takeBytes; rw [byteAlign_aligned h]; rfl

/-- `skip_bytes` on an aligned cursor (R58). -/
theorem skipBytes_aligned (n : Nat) {s : State} (h : s.cur.bit = 0) :
    skipBytes n s =
      if s.len < s.cur.byte + n then .raised (.truncated s.cur.byte) s
      else .ok () (s.setCur (Cursor.atByte (s.cur.byte + n))) := by
  unfold skipBytes; rw [byteAlign_aligned h]; rfl

/-- An aligned read of `8k` bits, the shape of `read_u16` and `read_u32`. -/
theorem takeBits_aligned {k : Nat} (hk : takeBitsWidth (8 * k) = true) {s : State} (h : s.cur.bit = 0) :
    takeBits (8 * k) s =
      if s.len < s.cur.byte + k then .raised (.truncated s.cur.byte) s
      else .ok (s.buf.bits (8 * s.cur.byte) (8 * k)) (s.setCur (Cursor.atByte (s.cur.byte + k))) := by
  unfold takeBits
  rw [if_pos hk, State.bitPos_aligned h, ← Nat.mul_add, Cursor.ofBitPos_aligned]
  by_cases hl : s.len < s.cur.byte + k
  · rw [if_pos hl, if_pos (by omega)]
  · rw [if_neg hl, if_neg (by omega)]

/-- `read_u16` on an aligned cursor: the big-endian integer, or `Truncated` at the field's start (R59). -/
theorem readU16_aligned {s : State} (h : s.cur.bit = 0) :
    readU16 s =
      if s.len < s.cur.byte + 2 then .raised (.truncated s.cur.byte) s
      else .ok (s.buf.read16 s.cur.byte) (s.setCur (Cursor.atByte (s.cur.byte + 2))) := by
  unfold readU16
  rw [byteAlign_aligned h, Res.andThen_ok, takeBits_aligned (k := 2) (by decide) h]
  split_ifs with hl
  · rfl
  · rw [Res.andThen_ok, byteAlign_aligned rfl, Res.andThen_ok, ← Memory.bits_read16]

/-- `read_u32` on an aligned cursor (R59). -/
theorem readU32_aligned {s : State} (h : s.cur.bit = 0) :
    readU32 s =
      if s.len < s.cur.byte + 4 then .raised (.truncated s.cur.byte) s
      else .ok (s.buf.read32 s.cur.byte) (s.setCur (Cursor.atByte (s.cur.byte + 4))) := by
  unfold readU32
  rw [byteAlign_aligned h, Res.andThen_ok, takeBits_aligned (k := 4) (by decide) h]
  split_ifs with hl
  · rfl
  · rw [Res.andThen_ok, byteAlign_aligned rfl, Res.andThen_ok, ← Memory.bits_read32]

/-- The Frame Control read on an aligned cursor (R62). -/
theorem readFrameControl_aligned {s : State} (h : s.cur.bit = 0) :
    readFrameControl s =
      if s.len < s.cur.byte + 2 then .raised (.truncated s.cur.byte) s
      else .ok (s.buf.read16 s.cur.byte) (s.setCur (Cursor.atByte (s.cur.byte + 2))) :=
  readU16_aligned h

/-! A BitCursor operation that raises has changed nothing and records the cursor's byte (R61). -/

theorem takeBits_raised {n : Nat} {s t : State} {e : DecodeError} (h : takeBits n s = .raised e t) :
    t = s ∧ e = .truncated s.cur.byte := by
  obtain ⟨-, he⟩ | ⟨-, -, he⟩ | ⟨-, -, he⟩ := takeBits_cases n s <;> rw [he] at h <;> cases h
  exact ⟨rfl, rfl⟩

theorem takeBytes_raised {n : Nat} {s t : State} {e : DecodeError} (h : takeBytes n s = .raised e t) :
    t = s ∧ e = .truncated s.cur.byte := by
  by_cases ha : s.cur.bit = 0
  · rw [takeBytes_aligned n ha] at h
    split_ifs at h; cases h
    exact ⟨rfl, rfl⟩
  · unfold takeBytes at h; rw [byteAlign_misaligned ha] at h; cases h

theorem skipBytes_raised {n : Nat} {s t : State} {e : DecodeError} (h : skipBytes n s = .raised e t) :
    t = s ∧ e = .truncated s.cur.byte := by
  by_cases ha : s.cur.bit = 0
  · rw [skipBytes_aligned n ha] at h
    split_ifs at h; cases h
    exact ⟨rfl, rfl⟩
  · unfold skipBytes at h; rw [byteAlign_misaligned ha] at h; cases h

theorem readU16_raised {s t : State} {e : DecodeError} (h : readU16 s = .raised e t) :
    t = s ∧ e = .truncated s.cur.byte := by
  by_cases ha : s.cur.bit = 0
  · rw [readU16_aligned ha] at h
    split_ifs at h; cases h
    exact ⟨rfl, rfl⟩
  · unfold readU16 at h; rw [byteAlign_misaligned ha] at h; cases h

theorem readU32_raised {s t : State} {e : DecodeError} (h : readU32 s = .raised e t) :
    t = s ∧ e = .truncated s.cur.byte := by
  by_cases ha : s.cur.bit = 0
  · rw [readU32_aligned ha] at h
    split_ifs at h; cases h
    exact ⟨rfl, rfl⟩
  · unfold readU32 at h; rw [byteAlign_misaligned ha] at h; cases h

/-! The field reads on an aligned cursor. -/

/-- Duration/ID (R71). -/
theorem readDuration_aligned {s : State} (h : s.cur.bit = 0) :
    readDuration s =
      if s.len < s.cur.byte + 2 then .raised (.truncated s.cur.byte) s
      else .ok () ((s.setCur (Cursor.atByte (s.cur.byte + 2))).setFields
        { s.fields with durationId := s.buf.read16 s.cur.byte }) := by
  unfold readDuration
  rw [readU16_aligned h]
  split_ifs <;> rfl

/-- An address: `Truncated`, then `InvalidAddress`, both with the field's start (R72, R73). -/
theorem readAddress_aligned (cfg : Config) {s : State} (h : s.cur.bit = 0) :
    readAddress cfg s =
      if s.len < s.cur.byte + 6 then .raised (.truncated s.cur.byte) s
      else if cfg.addrValid (s.buf.bytes s.cur.byte 6) then
        .ok (s.buf.bytes s.cur.byte 6) (s.setCur (Cursor.atByte (s.cur.byte + 6)))
      else .raised (.invalidAddress s.cur.byte) (s.setCur (Cursor.atByte (s.cur.byte + 6))) := by
  unfold readAddress
  rw [takeBytes_aligned 6 h]
  by_cases hl : s.len < s.cur.byte + 6
  · rw [if_pos hl, if_pos hl]; rfl
  · rw [if_neg hl, if_neg hl]; rfl

/-- Sequence Control (R79), with what each of its two reads leaves behind when it does not fit. -/
theorem readSequence_aligned (fc : FrameControl) {s : State} (h : s.cur.bit = 0) (hp : pSc fc = true) :
    readSequence fc s =
      if s.len < s.cur.byte + 1 then .raised (.truncated s.cur.byte) s
      else if s.len < s.cur.byte + 2 then
        .raised (.truncated s.cur.byte)
          ((s.setCur { byte := s.cur.byte, bit := 4 }).setFields
            { s.fields with scFrag := (s.buf.read16 s.cur.byte).extractLsb' 12 4 })
      else .ok () ((s.setCur (Cursor.atByte (s.cur.byte + 2))).setFields
        { s.fields with
          scFrag := (s.buf.read16 s.cur.byte).extractLsb' 12 4
          scSeq := (s.buf.read16 s.cur.byte).extractLsb' 0 12
          scValid := true }) := by
  have hpos := State.bitPos_aligned h
  have hcur : Cursor.ofBitPos (8 * s.cur.byte + 4) = { byte := s.cur.byte, bit := 4 } := by
    unfold Cursor.ofBitPos
    congr 1
    · omega
    · apply Fin.ext; show (8 * s.cur.byte + 4) % 8 = 4; omega
  unfold readSequence
  rw [if_pos hp, byteAlign_aligned h, Res.andThen_ok]
  obtain ⟨hw, -⟩ | ⟨-, hl, he⟩ | ⟨-, hl, he⟩ := takeBits_cases 4 s
  · exact absurd hw (by decide)
  · rw [he, Res.andThen_raised, if_pos (by omega)]
  · rw [he, Res.andThen_ok, if_neg (by omega), hpos, hcur, Memory.bits_high4]
    generalize ht : ((s.setCur { byte := s.cur.byte, bit := 4 }).setFields _) = t
    have htp : t.bitPos = 8 * s.cur.byte + 4 := by rw [← ht]; rfl
    have htl : t.len = s.len := by rw [← ht]; rfl
    obtain ⟨hw, -⟩ | ⟨-, hl2, he2⟩ | ⟨-, hl2, he2⟩ := takeBits_cases 12 t
    · exact absurd hw (by decide)
    · rw [he2, Res.andThen_raised, if_pos (by omega)]
      subst ht; rfl
    · rw [he2, Res.andThen_ok, if_neg (by omega), htp, show 8 * s.cur.byte + 4 + 12 = 8 * (s.cur.byte + 2) by omega,
        Cursor.ofBitPos_aligned]
      subst ht
      rw [byteAlign_aligned rfl, Res.andThen_ok]
      simp only [State.setFields_buf, State.setCur_buf, Memory.bits_low12]
      rfl

theorem readSequence_absent (fc : FrameControl) (s : State) (hp : pSc fc = false) :
    readSequence fc s = .ok () (s.setFields { s.fields with scValid := false }) := by
  unfold readSequence; rw [if_neg (by simp [hp])]

/-- Address4 when it is present (R75). -/
theorem readAddr4_present (cfg : Config) (fc : FrameControl) {s : State} (h : s.cur.bit = 0) (hp : pA4 fc = true) :
    readAddr4 cfg fc s =
      if s.len < s.cur.byte + 6 then .raised (.truncated s.cur.byte) s
      else if cfg.addrValid (s.buf.bytes s.cur.byte 6) then
        .ok () ((s.setCur (Cursor.atByte (s.cur.byte + 6))).setFields
          { s.fields with addr4 := s.buf.bytes s.cur.byte 6, addr4Valid := true })
      else .raised (.invalidAddress s.cur.byte) (s.setCur (Cursor.atByte (s.cur.byte + 6))) := by
  unfold readAddr4
  rw [if_pos hp, readAddress_aligned cfg h]
  split_ifs <;> rfl

theorem readAddr4_absent (cfg : Config) (fc : FrameControl) (s : State) (hp : pA4 fc = false) :
    readAddr4 cfg fc s = .ok () (s.setFields { s.fields with addr4Valid := false }) := by
  unfold readAddr4; rw [if_neg (by simp [hp])]

/-- QoS Control when it is present (R81). -/
theorem readQos_present (fc : FrameControl) {s : State} (h : s.cur.bit = 0) (hp : pQos fc = true) :
    readQos fc s =
      if s.len < s.cur.byte + 2 then .raised (.truncated s.cur.byte) s
      else .ok () ((s.setCur (Cursor.atByte (s.cur.byte + 2))).setFields
        { s.fields with qos := s.buf.read16 s.cur.byte, qosValid := true }) := by
  unfold readQos
  rw [if_pos hp, readU16_aligned h]
  split_ifs <;> rfl

theorem readQos_absent (fc : FrameControl) (s : State) (hp : pQos fc = false) :
    readQos fc s = .ok () (s.setFields { s.fields with qosValid := false }) := by
  unfold readQos; rw [if_neg (by simp [hp])]

/-- HT Control when it is present (R83). -/
theorem readHt_present (cfg : Config) (fc : FrameControl) {s : State} (h : s.cur.bit = 0) (hp : pHt cfg fc = true) :
    readHt cfg fc s =
      if s.len < s.cur.byte + 4 then .raised (.truncated s.cur.byte) s
      else .ok () ((s.setCur (Cursor.atByte (s.cur.byte + 4))).setFields
        { s.fields with ht := s.buf.read32 s.cur.byte, htValid := true }) := by
  unfold readHt
  rw [if_pos hp, readU32_aligned h]
  split_ifs <;> rfl

theorem readHt_absent (cfg : Config) (fc : FrameControl) (s : State) (hp : pHt cfg fc = false) :
    readHt cfg fc s = .ok () (s.setFields { s.fields with htValid := false }) := by
  unfold readHt; rw [if_neg (by simp [hp])]

/-- The body check and the body output (R85, R86). -/
theorem resolveBody_aligned {s : State} (h : s.cur.bit = 0) :
    resolveBody s =
      if s.len < s.cur.byte + 4 then
        .raised (.truncated s.cur.byte) (s.setFields { s.fields with hdrLen := s.cur.byte })
      else .ok () ((s.setCur (Cursor.atByte (s.len - 4))).setFields
        { s.fields with hdrLen := s.cur.byte, bodyOff := s.cur.byte, bodyLen := s.len - s.cur.byte - 4 }) := by
  unfold resolveBody resolveBodyLength
  rw [byteAlign_aligned h, Res.andThen_ok]
  by_cases hl : s.len < s.cur.byte + 4
  · rw [if_pos hl, if_pos (by simp only [Config.fcsLen]; omega)]; rfl
  · have hn : ((s.len : Int) - (s.cur.byte : Int) - (Config.fcsLen : Int)).toNat = s.len - s.cur.byte - 4 := by
      simp only [Config.fcsLen]; omega
    rw [if_neg hl, if_neg (by simp only [Config.fcsLen]; omega), Res.andThen_ok, hn, skipBytes_aligned _ (by exact h)]
    have hfit : ¬ s.len < s.cur.byte + (s.len - s.cur.byte - 4) := by omega
    refine (if_neg hfit).trans ?_
    simp only [State.setFields_cur, show s.cur.byte + (s.len - s.cur.byte - 4) = s.len - 4 by omega]
    rfl

/-- The integrity field (R87). -/
theorem readIntegrity_aligned {s : State} (h : s.cur.bit = 0) :
    readIntegrity s =
      if s.len < s.cur.byte + 4 then .raised (.truncated s.cur.byte) s
      else .ok () ((s.setCur (Cursor.atByte (s.cur.byte + 4))).setFields
        { s.fields with fcs := s.buf.read32 s.cur.byte }) := by
  unfold readIntegrity
  rw [readU32_aligned h]
  split_ifs <;> rfl

/-! Failure entry, request and reset. -/

@[simp] theorem failureEntry_stage (e : DecodeError) (s : State) : (failureEntry e s).stage = .failed := rfl
@[simp] theorem failureEntry_status (e : DecodeError) (s : State) : (failureEntry e s).status = errorStatus e := rfl
@[simp] theorem failureEntry_errOffset (e : DecodeError) (s : State) : (failureEntry e s).errOffset = errorOffset e := rfl
@[simp] theorem failureEntry_cur (e : DecodeError) (s : State) : (failureEntry e s).cur = s.cur := rfl
@[simp] theorem failureEntry_fc (e : DecodeError) (s : State) : (failureEntry e s).fc = s.fc := rfl
@[simp] theorem failureEntry_fields (e : DecodeError) (s : State) : (failureEntry e s).fields = s.fields := rfl
@[simp] theorem failureEntry_roles (e : DecodeError) (s : State) : (failureEntry e s).roles = s.roles := rfl
@[simp] theorem failureEntry_buf (e : DecodeError) (s : State) : (failureEntry e s).buf = s.buf := rfl
@[simp] theorem failureEntry_len (e : DecodeError) (s : State) : (failureEntry e s).len = s.len := rfl
@[simp] theorem failureEntry_host (e : DecodeError) (s : State) : (failureEntry e s).host = s.host := rfl

/-- All that taking a request can do, by whether `LEN_MAX` admits the frame's length (R7, R89). -/
theorem takeRequest_cases (cfg : Config) (f : List Byte) (s : State) :
    (cfg.lenFits f.length = true ∧ takeRequest cfg f s = .next (acceptRequest f s)) ∨
    (cfg.lenFits f.length = false ∧ takeRequest cfg f s = .refused (.lenMax f.length)) := by
  cases h : cfg.lenFits f.length with
  | true => exact .inl ⟨rfl, if_pos h⟩
  | false => exact .inr ⟨rfl, if_neg (by simpa [HostEvent.wf] using h)⟩

/-- `LEN_MAX` unbounded admits every request, as on this hardware. -/
theorem takeRequest_unbounded {cfg : Config} (h : cfg.lenMax = none) (f : List Byte) (s : State) :
    takeRequest cfg f s = .next (acceptRequest f s) :=
  if_pos (by simp [HostEvent.wf, Config.lenFits, h])

@[simp] theorem hardReset_stage (s : State) : (hardReset s).stage = .idle := rfl
@[simp] theorem hardReset_buf (s : State) : (hardReset s).buf = s.buf := rfl
@[simp] theorem hardReset_len (s : State) : (hardReset s).len = s.len := rfl
@[simp] theorem hardReset_host (s : State) : (hardReset s).host = s.host := rfl

@[simp] theorem acceptRequest_stage (f : List Byte) (s : State) : (acceptRequest f s).stage = .start := rfl
@[simp] theorem acceptRequest_cur (f : List Byte) (s : State) : (acceptRequest f s).cur = Cursor.atByte 0 := rfl
@[simp] theorem acceptRequest_buf (f : List Byte) (s : State) : (acceptRequest f s).buf = Memory.ofBytes f := rfl
@[simp] theorem acceptRequest_len (f : List Byte) (s : State) : (acceptRequest f s).len = f.length := rfl
@[simp] theorem acceptRequest_host (f : List Byte) (s : State) : (acceptRequest f s).host = s.host := rfl

end Sys2Proof.Machine
end

