-- ==== Sys2Proof/Laws/Exec.lean ====
section
/-! SUPPORT. What `exec` and `step` come down to: one transition with the frame class's own Frame Control, and what a step adds
around it. -/

namespace Sys2Proof.Machine

/-- The fields of a Frame Control byte 0 put together from its parts (R44). -/
theorem FrameControl.ofBytes_append (v ty : BitVec 2) (st : BitVec 4) (flags : Byte) :
    FrameControl.ofBytes (st ++ ty ++ v) flags = { version := v, type := ty, subtype := st, flags := flags } := by
  unfold FrameControl.ofBytes
  congr 1 <;> revert v ty st <;> decide

/-- Every frame class runs the transition of its own Frame Control on this hardware. -/
theorem exec_eq_transition (i : Instr) (s : State) : exec i s = transition hardware i.frameControl s := by
  cases i <;> exact congrArg (transition hardware · s) (FrameControl.ofBytes_append _ _ _ _).symm

/-- All that a step can be, by the host's event and whether the decoder waits (R88, R89, R118, R122). -/
theorem step_cases (s : State) :
    (s.hostNow = .reset ∧ step s = .next (hardReset s.sampled)) ∨
    (∃ frame, s.hostNow = .request frame ∧ s.stage.waiting = true ∧ step s = .next (acceptRequest frame s.sampled)) ∨
    (s.hostNow = .quiet ∧ s.stage.waiting = true ∧ step s = .next s.sampled) ∨
    (s.hostNow ≠ .reset ∧ s.stage.waiting = false ∧ step s = advance s.sampled) := by
  have hs : step s = cycle s := rfl
  rw [hs]
  unfold cycle cycleBy
  cases h : s.hostNow with
  | reset => exact .inl ⟨rfl, rfl⟩
  | request frame =>
    cases hw : s.stage.waiting with
    | true => exact .inr (.inl ⟨frame, rfl, rfl, by simp [takeRequest_unbounded (cfg := hardware) rfl]⟩)
    | false => exact .inr (.inr (.inr ⟨by simp, rfl, by simp⟩))
  | quiet =>
    cases hw : s.stage.waiting with
    | true => exact .inr (.inr (.inl ⟨rfl, rfl, by simp⟩))
    | false => exact .inr (.inr (.inr ⟨by simp, rfl, by simp⟩))

@[simp] theorem sampled_stage (s : State) : s.sampled.stage = s.stage := rfl
@[simp] theorem sampled_cur (s : State) : s.sampled.cur = s.cur := rfl
@[simp] theorem sampled_fc (s : State) : s.sampled.fc = s.fc := rfl
@[simp] theorem sampled_fields (s : State) : s.sampled.fields = s.fields := rfl
@[simp] theorem sampled_roles (s : State) : s.sampled.roles = s.roles := rfl
@[simp] theorem sampled_status (s : State) : s.sampled.status = s.status := rfl
@[simp] theorem sampled_errOffset (s : State) : s.sampled.errOffset = s.errOffset := rfl
@[simp] theorem sampled_buf (s : State) : s.sampled.buf = s.buf := rfl
@[simp] theorem sampled_len (s : State) : s.sampled.len = s.len := rfl
@[simp] theorem sampled_host (s : State) : s.sampled.host = s.host.tail := rfl

/-- From any state but `Start` a transition is the frame class in progress (R88). -/
theorem advance_of_ne_start {s : State} (h : s.stage ≠ .start) : advance s = exec (instrInProgress s) s := if_neg h

/-- From `Start`, on an aligned cursor: `Truncated`, or the frame class that Frame Control selects, with the cursor past it (R62). -/
theorem advance_start {s : State} (h : s.stage = .start) (ha : s.cur.bit = 0) :
    advance s =
      if s.len < s.cur.byte + 2 then .next (failureEntry (.truncated s.cur.byte) s)
      else exec (fetchedInstr (s.buf.read16 s.cur.byte)) (s.setCur (Cursor.atByte (s.cur.byte + 2))) := by
  unfold advance advanceBy fetchAndRun
  rw [if_pos h, readFrameControl_aligned ha]
  split_ifs <;> rfl

end Sys2Proof.Machine
end

