-- ==== Sys2Proof/Laws/PerInstr.lean ====
section
/-! SUPPORT. Statements about every frame class as a term, one lemma per constructor. -/

namespace Sys2Proof.Laws

/-- The encoded first byte of a frame class matches its opcode-table row under the row's mask (R49). -/
def RowMatch.Statement (i : Instr) : Prop := i.byte0 &&& i.rowMask = i.rowMatch

theorem RowMatch.mgtAssocReq (flags : Byte) : RowMatch.Statement (.mgtAssocReq flags) := by
  unfold RowMatch.Statement; exact (by decide : (0x04 : Byte) &&& 0xFF = 0x04)

theorem RowMatch.mgtAssocResp (flags : Byte) : RowMatch.Statement (.mgtAssocResp flags) := by
  unfold RowMatch.Statement; exact (by decide : (0x14 : Byte) &&& 0xFF = 0x14)

theorem RowMatch.mgtReassocReq (flags : Byte) : RowMatch.Statement (.mgtReassocReq flags) := by
  unfold RowMatch.Statement; exact (by decide : (0x24 : Byte) &&& 0xFF = 0x24)

theorem RowMatch.mgtReassocResp (flags : Byte) : RowMatch.Statement (.mgtReassocResp flags) := by
  unfold RowMatch.Statement; exact (by decide : (0x34 : Byte) &&& 0xFF = 0x34)

theorem RowMatch.mgtProbeReq (flags : Byte) : RowMatch.Statement (.mgtProbeReq flags) := by
  unfold RowMatch.Statement; exact (by decide : (0x44 : Byte) &&& 0xFF = 0x44)

theorem RowMatch.mgtProbeResp (flags : Byte) : RowMatch.Statement (.mgtProbeResp flags) := by
  unfold RowMatch.Statement; exact (by decide : (0x54 : Byte) &&& 0xFF = 0x54)

theorem RowMatch.mgtTimingAdv (flags : Byte) : RowMatch.Statement (.mgtTimingAdv flags) := by
  unfold RowMatch.Statement; exact (by decide : (0x64 : Byte) &&& 0xFF = 0x64)

theorem RowMatch.mgtReserved7 (flags : Byte) : RowMatch.Statement (.mgtReserved7 flags) := by
  unfold RowMatch.Statement; exact (by decide : (0x74 : Byte) &&& 0xFF = 0x74)

theorem RowMatch.mgtBeacon (flags : Byte) : RowMatch.Statement (.mgtBeacon flags) := by
  unfold RowMatch.Statement; exact (by decide : (0x84 : Byte) &&& 0xFF = 0x84)

theorem RowMatch.mgtAtim (flags : Byte) : RowMatch.Statement (.mgtAtim flags) := by
  unfold RowMatch.Statement; exact (by decide : (0x94 : Byte) &&& 0xFF = 0x94)

theorem RowMatch.mgtDisassoc (flags : Byte) : RowMatch.Statement (.mgtDisassoc flags) := by
  unfold RowMatch.Statement; exact (by decide : (0xA4 : Byte) &&& 0xFF = 0xA4)

theorem RowMatch.mgtAuth (flags : Byte) : RowMatch.Statement (.mgtAuth flags) := by
  unfold RowMatch.Statement; exact (by decide : (0xB4 : Byte) &&& 0xFF = 0xB4)

theorem RowMatch.mgtDeauth (flags : Byte) : RowMatch.Statement (.mgtDeauth flags) := by
  unfold RowMatch.Statement; exact (by decide : (0xC4 : Byte) &&& 0xFF = 0xC4)

theorem RowMatch.mgtAction (flags : Byte) : RowMatch.Statement (.mgtAction flags) := by
  unfold RowMatch.Statement; exact (by decide : (0xD4 : Byte) &&& 0xFF = 0xD4)

theorem RowMatch.mgtActionNoAck (flags : Byte) : RowMatch.Statement (.mgtActionNoAck flags) := by
  unfold RowMatch.Statement; exact (by decide : (0xE4 : Byte) &&& 0xFF = 0xE4)

theorem RowMatch.mgtReservedF (flags : Byte) : RowMatch.Statement (.mgtReservedF flags) := by
  unfold RowMatch.Statement; exact (by decide : (0xF4 : Byte) &&& 0xFF = 0xF4)

theorem RowMatch.ctlReserved0 (flags : Byte) : RowMatch.Statement (.ctlReserved0 flags) := by
  unfold RowMatch.Statement; exact (by decide : (0x00 : Byte) &&& 0xFF = 0x00)

theorem RowMatch.ctlReserved1 (flags : Byte) : RowMatch.Statement (.ctlReserved1 flags) := by
  unfold RowMatch.Statement; exact (by decide : (0x10 : Byte) &&& 0xFF = 0x10)

theorem RowMatch.ctlTrigger (flags : Byte) : RowMatch.Statement (.ctlTrigger flags) := by
  unfold RowMatch.Statement; exact (by decide : (0x20 : Byte) &&& 0xFF = 0x20)

theorem RowMatch.ctlReserved3 (flags : Byte) : RowMatch.Statement (.ctlReserved3 flags) := by
  unfold RowMatch.Statement; exact (by decide : (0x30 : Byte) &&& 0xFF = 0x30)

theorem RowMatch.ctlBfReportPoll (flags : Byte) : RowMatch.Statement (.ctlBfReportPoll flags) := by
  unfold RowMatch.Statement; exact (by decide : (0x40 : Byte) &&& 0xFF = 0x40)

theorem RowMatch.ctlVhtNdpAnnouncement (flags : Byte) : RowMatch.Statement (.ctlVhtNdpAnnouncement flags) := by
  unfold RowMatch.Statement; exact (by decide : (0x50 : Byte) &&& 0xFF = 0x50)

theorem RowMatch.ctlFrameExtension (flags : Byte) : RowMatch.Statement (.ctlFrameExtension flags) := by
  unfold RowMatch.Statement; exact (by decide : (0x60 : Byte) &&& 0xFF = 0x60)

theorem RowMatch.ctlWrapper (flags : Byte) : RowMatch.Statement (.ctlWrapper flags) := by
  unfold RowMatch.Statement; exact (by decide : (0x70 : Byte) &&& 0xFF = 0x70)

theorem RowMatch.ctlBlockAckReq (flags : Byte) : RowMatch.Statement (.ctlBlockAckReq flags) := by
  unfold RowMatch.Statement; exact (by decide : (0x80 : Byte) &&& 0xFF = 0x80)

theorem RowMatch.ctlBlockAck (flags : Byte) : RowMatch.Statement (.ctlBlockAck flags) := by
  unfold RowMatch.Statement; exact (by decide : (0x90 : Byte) &&& 0xFF = 0x90)

theorem RowMatch.ctlPsPoll (flags : Byte) : RowMatch.Statement (.ctlPsPoll flags) := by
  unfold RowMatch.Statement; exact (by decide : (0xA0 : Byte) &&& 0xFF = 0xA0)

theorem RowMatch.ctlRts (flags : Byte) : RowMatch.Statement (.ctlRts flags) := by
  unfold RowMatch.Statement; exact (by decide : (0xB0 : Byte) &&& 0xFF = 0xB0)

theorem RowMatch.ctlCts (flags : Byte) : RowMatch.Statement (.ctlCts flags) := by
  unfold RowMatch.Statement; exact (by decide : (0xC0 : Byte) &&& 0xFF = 0xC0)

theorem RowMatch.ctlAck (flags : Byte) : RowMatch.Statement (.ctlAck flags) := by
  unfold RowMatch.Statement; exact (by decide : (0xD0 : Byte) &&& 0xFF = 0xD0)

theorem RowMatch.ctlCfEnd (flags : Byte) : RowMatch.Statement (.ctlCfEnd flags) := by
  unfold RowMatch.Statement; exact (by decide : (0xE0 : Byte) &&& 0xFF = 0xE0)

theorem RowMatch.ctlCfEndCfAck (flags : Byte) : RowMatch.Statement (.ctlCfEndCfAck flags) := by
  unfold RowMatch.Statement; exact (by decide : (0xF0 : Byte) &&& 0xFF = 0xF0)

theorem RowMatch.data (flags : Byte) : RowMatch.Statement (.data flags) := by
  unfold RowMatch.Statement; exact (by decide : (0x08 : Byte) &&& 0xFF = 0x08)

theorem RowMatch.dataAck (flags : Byte) : RowMatch.Statement (.dataAck flags) := by
  unfold RowMatch.Statement; exact (by decide : (0x18 : Byte) &&& 0xFF = 0x18)

theorem RowMatch.dataPoll (flags : Byte) : RowMatch.Statement (.dataPoll flags) := by
  unfold RowMatch.Statement; exact (by decide : (0x28 : Byte) &&& 0xFF = 0x28)

theorem RowMatch.dataAckPoll (flags : Byte) : RowMatch.Statement (.dataAckPoll flags) := by
  unfold RowMatch.Statement; exact (by decide : (0x38 : Byte) &&& 0xFF = 0x38)

theorem RowMatch.dataNull (flags : Byte) : RowMatch.Statement (.dataNull flags) := by
  unfold RowMatch.Statement; exact (by decide : (0x48 : Byte) &&& 0xFF = 0x48)

theorem RowMatch.dataAckNull (flags : Byte) : RowMatch.Statement (.dataAckNull flags) := by
  unfold RowMatch.Statement; exact (by decide : (0x58 : Byte) &&& 0xFF = 0x58)

theorem RowMatch.dataPollNull (flags : Byte) : RowMatch.Statement (.dataPollNull flags) := by
  unfold RowMatch.Statement; exact (by decide : (0x68 : Byte) &&& 0xFF = 0x68)

theorem RowMatch.dataAckPollNull (flags : Byte) : RowMatch.Statement (.dataAckPollNull flags) := by
  unfold RowMatch.Statement; exact (by decide : (0x78 : Byte) &&& 0xFF = 0x78)

theorem RowMatch.dataQos (flags : Byte) : RowMatch.Statement (.dataQos flags) := by
  unfold RowMatch.Statement; exact (by decide : (0x88 : Byte) &&& 0xFF = 0x88)

theorem RowMatch.dataAckQos (flags : Byte) : RowMatch.Statement (.dataAckQos flags) := by
  unfold RowMatch.Statement; exact (by decide : (0x98 : Byte) &&& 0xFF = 0x98)

theorem RowMatch.dataPollQos (flags : Byte) : RowMatch.Statement (.dataPollQos flags) := by
  unfold RowMatch.Statement; exact (by decide : (0xA8 : Byte) &&& 0xFF = 0xA8)

theorem RowMatch.dataAckPollQos (flags : Byte) : RowMatch.Statement (.dataAckPollQos flags) := by
  unfold RowMatch.Statement; exact (by decide : (0xB8 : Byte) &&& 0xFF = 0xB8)

theorem RowMatch.dataNullQos (flags : Byte) : RowMatch.Statement (.dataNullQos flags) := by
  unfold RowMatch.Statement; exact (by decide : (0xC8 : Byte) &&& 0xFF = 0xC8)

theorem RowMatch.dataAckNullQos (flags : Byte) : RowMatch.Statement (.dataAckNullQos flags) := by
  unfold RowMatch.Statement; exact (by decide : (0xD8 : Byte) &&& 0xFF = 0xD8)

theorem RowMatch.dataPollNullQos (flags : Byte) : RowMatch.Statement (.dataPollNullQos flags) := by
  unfold RowMatch.Statement; exact (by decide : (0xE8 : Byte) &&& 0xFF = 0xE8)

theorem RowMatch.dataAckPollNullQos (flags : Byte) : RowMatch.Statement (.dataAckPollNullQos flags) := by
  unfold RowMatch.Statement; exact (by decide : (0xF8 : Byte) &&& 0xFF = 0xF8)

theorem RowMatch.extDmgBeacon (flags : Byte) : RowMatch.Statement (.extDmgBeacon flags) := by
  unfold RowMatch.Statement; exact (by decide : (0x0C : Byte) &&& 0xFF = 0x0C)

theorem RowMatch.extReserved1 (flags : Byte) : RowMatch.Statement (.extReserved1 flags) := by
  unfold RowMatch.Statement; exact (by decide : (0x1C : Byte) &&& 0xFF = 0x1C)

theorem RowMatch.extReserved2 (flags : Byte) : RowMatch.Statement (.extReserved2 flags) := by
  unfold RowMatch.Statement; exact (by decide : (0x2C : Byte) &&& 0xFF = 0x2C)

theorem RowMatch.extReserved3 (flags : Byte) : RowMatch.Statement (.extReserved3 flags) := by
  unfold RowMatch.Statement; exact (by decide : (0x3C : Byte) &&& 0xFF = 0x3C)

theorem RowMatch.extReserved4 (flags : Byte) : RowMatch.Statement (.extReserved4 flags) := by
  unfold RowMatch.Statement; exact (by decide : (0x4C : Byte) &&& 0xFF = 0x4C)

theorem RowMatch.extReserved5 (flags : Byte) : RowMatch.Statement (.extReserved5 flags) := by
  unfold RowMatch.Statement; exact (by decide : (0x5C : Byte) &&& 0xFF = 0x5C)

theorem RowMatch.extReserved6 (flags : Byte) : RowMatch.Statement (.extReserved6 flags) := by
  unfold RowMatch.Statement; exact (by decide : (0x6C : Byte) &&& 0xFF = 0x6C)

theorem RowMatch.extReserved7 (flags : Byte) : RowMatch.Statement (.extReserved7 flags) := by
  unfold RowMatch.Statement; exact (by decide : (0x7C : Byte) &&& 0xFF = 0x7C)

theorem RowMatch.extReserved8 (flags : Byte) : RowMatch.Statement (.extReserved8 flags) := by
  unfold RowMatch.Statement; exact (by decide : (0x8C : Byte) &&& 0xFF = 0x8C)

theorem RowMatch.extReserved9 (flags : Byte) : RowMatch.Statement (.extReserved9 flags) := by
  unfold RowMatch.Statement; exact (by decide : (0x9C : Byte) &&& 0xFF = 0x9C)

theorem RowMatch.extReservedA (flags : Byte) : RowMatch.Statement (.extReservedA flags) := by
  unfold RowMatch.Statement; exact (by decide : (0xAC : Byte) &&& 0xFF = 0xAC)

theorem RowMatch.extReservedB (flags : Byte) : RowMatch.Statement (.extReservedB flags) := by
  unfold RowMatch.Statement; exact (by decide : (0xBC : Byte) &&& 0xFF = 0xBC)

theorem RowMatch.extReservedC (flags : Byte) : RowMatch.Statement (.extReservedC flags) := by
  unfold RowMatch.Statement; exact (by decide : (0xCC : Byte) &&& 0xFF = 0xCC)

theorem RowMatch.extReservedD (flags : Byte) : RowMatch.Statement (.extReservedD flags) := by
  unfold RowMatch.Statement; exact (by decide : (0xDC : Byte) &&& 0xFF = 0xDC)

theorem RowMatch.extReservedE (flags : Byte) : RowMatch.Statement (.extReservedE flags) := by
  unfold RowMatch.Statement; exact (by decide : (0xEC : Byte) &&& 0xFF = 0xEC)

theorem RowMatch.extReservedF (flags : Byte) : RowMatch.Statement (.extReservedF flags) := by
  unfold RowMatch.Statement; exact (by decide : (0xFC : Byte) &&& 0xFF = 0xFC)

theorem RowMatch.unsupportedVersion1 (type : BitVec 2) (subtype : BitVec 4) (flags : Byte) :
    RowMatch.Statement (.unsupportedVersion1 type subtype flags) := by
  show (subtype ++ type ++ 1#2 : Byte) &&& 0x03 = 0x01
  revert type subtype; decide

theorem RowMatch.unsupportedVersion2 (type : BitVec 2) (subtype : BitVec 4) (flags : Byte) :
    RowMatch.Statement (.unsupportedVersion2 type subtype flags) := by
  show (subtype ++ type ++ 2#2 : Byte) &&& 0x03 = 0x02
  revert type subtype; decide

theorem RowMatch.unsupportedVersion3 (type : BitVec 2) (subtype : BitVec 4) (flags : Byte) :
    RowMatch.Statement (.unsupportedVersion3 type subtype flags) := by
  show (subtype ++ type ++ 3#2 : Byte) &&& 0x03 = 0x03
  revert type subtype; decide

end Sys2Proof.Laws
end

