-- ==== Sys2Proof/Tests/Slice0.lean ====
section
/-! SUPPORT. The model's own tests: terms the checks refuse, words written out from the spec's encodings, the spec's vectors
(95_test_vectors.md, named beside each), and for every statement with hypotheses a state that meets them. -/

namespace Sys2Proof.Tests

open Machine

/-- The next state, if there is one. -/
def nextOf (o : Host.Outcome State Fault Refusal) : Option State :=
  match o with
  | .next t => some t
  | .fault _ => none
  | .refused _ => none

/-- A test on the next state. -/
def leads (o : Host.Outcome State Fault Refusal) (p : State → Bool) : Bool := (nextOf o).any p

theorem exists_of_leads {o : Host.Outcome State Fault Refusal} {p : State → Bool} (h : leads o p = true) :
    ∃ t, o = .next t ∧ p t = true := by
  cases o with
  | next t => exact ⟨t, rfl, h⟩
  | fault f => cases h
  | refused r => cases h

/-- The decoder in state `g`, the cursor before byte `b`, `frame` in the buffer, Frame Control in its registers. -/
def mk (g : Stage) (b : Nat) (fc0 fc1 : Byte) (frame : List Byte) : State :=
  ((acceptRequest frame State.reset).setFc (FrameControl.ofBytes fc0 fc1)).setStage g |>.setCur { byte := b, bit := 0 }

/-- `n` bytes, byte k of them `k + 1`, so that every field read from them is told from its neighbours. -/
def ramp (n : Nat) : List Byte := (List.range n).map fun k => BitVec.ofNat 8 (k + 1)

/-! Terms the checks refuse. -/

theorem test_wf_refuses_take_bits_0 : (CursorOp.takeBits 0).wf = false := by decide
theorem test_wf_refuses_take_bits_33 : (CursorOp.takeBits 33).wf = false := by decide
theorem test_wf_admits_take_bits_1_and_32 : (CursorOp.takeBits 1).wf = true ∧ (CursorOp.takeBits 32).wf = true := by decide
theorem test_wf_refuses_frame_longer_than_len_max :
    (HostEvent.request [1, 2, 3]).wf { hardware with lenMax := some 2 } = false := by decide
theorem test_wf_admits_frame_of_len_max :
    (HostEvent.request [1, 2]).wf { hardware with lenMax := some 2 } = true := by decide

theorem test_request_over_len_max_is_refused :
    (match stepWith { hardware with lenMax := some 2 } (State.reset.setHost [.request [1, 2, 3]]) with
      | .refused r => r == .lenMax 3
      | .fault _ => false
      | .next _ => false) = true := by decide
theorem test_request_of_len_max_is_accepted :
    leads (stepWith { hardware with lenMax := some 2 } (State.reset.setHost [.request [1, 2]])) (fun t =>
      t.stage == .start && t.len == 2) = true := by decide
theorem test_busy_request_over_len_max_is_ignored :
    leads (stepWith { hardware with lenMax := some 30 }
      ((mk .sequenceControlResolved 24 0x84 0 (ramp 30)).setHost [.request (ramp 31)])) (fun t =>
      t.stage == .address4Resolved && t.len == 30) = true := by decide

/-! Words written out bit by bit from the encoding: `ssss tt vv`, then the flags byte. -/

theorem test_decode_control_classes :
    ([0b00000000, 0b00010000, 0b00100000, 0b00110000, 0b01000000, 0b01010000, 0b01100000, 0b01110000,
      0b10000000, 0b10010000, 0b10100000, 0b10110000, 0b11000000, 0b11010000, 0b11100000, 0b11110000] : List Byte).map
      (fun b => decodeBytes [b, 0x88]) =
    [.ctlReserved0 0x88, .ctlReserved1 0x88, .ctlTrigger 0x88, .ctlReserved3 0x88, .ctlBfReportPoll 0x88,
      .ctlVhtNdpAnnouncement 0x88, .ctlFrameExtension 0x88, .ctlWrapper 0x88, .ctlBlockAckReq 0x88, .ctlBlockAck 0x88,
      .ctlPsPoll 0x88, .ctlRts 0x88, .ctlCts 0x88, .ctlAck 0x88, .ctlCfEnd 0x88, .ctlCfEndCfAck 0x88].map
      (fun i => .ok (i, [])) := by decide

theorem test_decode_management_classes :
    ([0b00000100, 0b00010100, 0b00100100, 0b00110100, 0b01000100, 0b01010100, 0b01100100, 0b01110100,
      0b10000100, 0b10010100, 0b10100100, 0b10110100, 0b11000100, 0b11010100, 0b11100100, 0b11110100] : List Byte).map
      (fun b => decodeBytes [b, 0x80]) =
    [.mgtAssocReq 0x80, .mgtAssocResp 0x80, .mgtReassocReq 0x80, .mgtReassocResp 0x80, .mgtProbeReq 0x80,
      .mgtProbeResp 0x80, .mgtTimingAdv 0x80, .mgtReserved7 0x80, .mgtBeacon 0x80, .mgtAtim 0x80, .mgtDisassoc 0x80,
      .mgtAuth 0x80, .mgtDeauth 0x80, .mgtAction 0x80, .mgtActionNoAck 0x80, .mgtReservedF 0x80].map
      (fun i => .ok (i, [])) := by decide

theorem test_decode_data_classes :
    ([0b00001000, 0b00011000, 0b00101000, 0b00111000, 0b01001000, 0b01011000, 0b01101000, 0b01111000,
      0b10001000, 0b10011000, 0b10101000, 0b10111000, 0b11001000, 0b11011000, 0b11101000, 0b11111000] : List Byte).map
      (fun b => decodeBytes [b, 0x01]) =
    [.data 0x01, .dataAck 0x01, .dataPoll 0x01, .dataAckPoll 0x01, .dataNull 0x01, .dataAckNull 0x01, .dataPollNull 0x01,
      .dataAckPollNull 0x01, .dataQos 0x01, .dataAckQos 0x01, .dataPollQos 0x01, .dataAckPollQos 0x01, .dataNullQos 0x01,
      .dataAckNullQos 0x01, .dataPollNullQos 0x01, .dataAckPollNullQos 0x01].map
      (fun i => .ok (i, [])) := by decide

theorem test_decode_extension_classes :
    ([0b00001100, 0b00011100, 0b00101100, 0b00111100, 0b01001100, 0b01011100, 0b01101100, 0b01111100,
      0b10001100, 0b10011100, 0b10101100, 0b10111100, 0b11001100, 0b11011100, 0b11101100, 0b11111100] : List Byte).map
      (fun b => decodeBytes [b, 0x83]) =
    [.extDmgBeacon 0x83, .extReserved1 0x83, .extReserved2 0x83, .extReserved3 0x83, .extReserved4 0x83, .extReserved5 0x83,
      .extReserved6 0x83, .extReserved7 0x83, .extReserved8 0x83, .extReserved9 0x83, .extReservedA 0x83, .extReservedB 0x83,
      .extReservedC 0x83, .extReservedD 0x83, .extReservedE 0x83, .extReservedF 0x83].map
      (fun i => .ok (i, [])) := by decide

theorem test_decode_unsupported_versions :
    ([0b00001001, 0b00000010, 0b11111111] : List Byte).map (fun b => decodeBytes [b, 0xFF]) =
    [.unsupportedVersion1 0b10 0b0000 0xFF, .unsupportedVersion2 0b00 0b0000 0xFF,
      .unsupportedVersion3 0b11 0b1111 0xFF].map (fun i => .ok (i, [])) := by decide

theorem test_decode_refuses_no_bytes : decodeBytes [] = .error .shorterThanFrameControl := by decide

theorem test_table_word_beacon : decodeTableWord 8 0x84 = some (.mgtBeacon 0x00) := by decide
theorem test_table_word_version_3 : decodeTableWord 8 0x03 = some (.unsupportedVersion3 0 0 0x00) := by decide

/-- The word placed for the host is the one the next step runs. -/
theorem test_fetch_word_runs_it :
    leads (step (State.reset.withFetchWord 8 0xD4)) (fun t =>
      t.stage == .frameControlDecoded && t.fc == { version := 0, type := 1, subtype := 0xD, flags := 0 } &&
      t.cur == { byte := 2, bit := 0 }) = true := by decide

/-! The BitCursor: V-A1, V-A2, V-A4, V-A6, V-A10, V-A11, V-A13, V-A16, V-A18, V-A19. -/

theorem test_take_bits_high_nibble : (takeBits 4 (mk .start 0 0 0 [0xA5, 0x3C])) =
    .ok 0xA ((mk .start 0 0 0 [0xA5, 0x3C]).setCur { byte := 0, bit := 4 }) := by decide
theorem test_take_bits_across_bytes :
    takeBits 8 ((mk .start 0 0 0 [0xA5, 0x3C]).setCur { byte := 0, bit := 4 }) =
    .ok 0x53 ((mk .start 0 0 0 [0xA5, 0x3C]).setCur { byte := 1, bit := 4 }) := by decide
theorem test_take_bits_at_the_end :
    takeBits 1 (mk .start 2 0 0 [0xA5, 0x3C]) = .raised (.truncated 2) (mk .start 2 0 0 [0xA5, 0x3C]) := by decide
theorem test_take_bits_15_remain :
    takeBits 16 ((mk .start 0 0 0 [0xA5, 0x3C]).setCur { byte := 0, bit := 1 }) =
    .raised (.truncated 0) ((mk .start 0 0 0 [0xA5, 0x3C]).setCur { byte := 0, bit := 1 }) := by decide
theorem test_take_bits_32 : takeBits 32 (mk .start 0 0 0 [0xFF, 0xFF, 0xFF, 0xFF]) =
    .ok 0xFFFFFFFF (mk .start 4 0 0 [0xFF, 0xFF, 0xFF, 0xFF]) := by decide
theorem test_read_u16_big_endian : readU16 (mk .start 0 0 0 [0x12, 0x34]) =
    .ok 0x1234 (mk .start 2 0 0 [0x12, 0x34]) := by decide
theorem test_read_u32_truncated : readU32 (mk .start 0 0 0 [0xDE, 0xAD, 0xBE]) =
    .raised (.truncated 0) (mk .start 0 0 0 [0xDE, 0xAD, 0xBE]) := by decide
theorem test_take_bytes_truncated :
    takeBytes 6 (mk .start 10 0 0 (ramp 12)) = .raised (.truncated 10) (mk .start 10 0 0 (ramp 12)) := by decide
theorem test_byte_align_inside_a_byte :
    byteAlign ((mk .start 0 0 0 (ramp 2)).setCur { byte := 1, bit := 4 }) = .fault .misaligned := by decide
theorem test_remaining_bytes : remainingBytes (mk .start 24 0 0 (ramp 26)) = 2 := by decide

/-! One step each: V-D1, V-D3, V-S1, V-S6, V-D5, V-S10, V-S11, V-S15, V-D12, the first program and the last transition of the
second. -/

theorem test_duration_truncated :
    leads (exec (.ctlAck 0) (mk .frameControlDecoded 2 0xD0 0 [0xD0, 0, 0])) (fun t =>
      t.result == some (.err (.truncated 2))) = true := by decide
theorem test_fourteen_byte_ack :
    leads (exec (.ctlAck 0) (mk .frameControlDecoded 2 0xD0 0
      [0xD0, 0, 0, 0, 0x02, 0x11, 0x22, 0x33, 0x44, 0x55, 0, 0, 0, 0])) (fun t =>
      t.result == some (.err (.truncated 10)) && t.fields.addr1 == #v[0x02, 0x11, 0x22, 0x33, 0x44, 0x55]) = true := by
  decide
theorem test_sequence_control_nibbles :
    leads (exec (.data 0) (mk .addressesDecoded 22 0x08 0 (List.replicate 22 0 ++ [0x12, 0x34]))) (fun t =>
      t.fields.scFrag == 0x1 && t.fields.scSeq == 0x234 && t.fields.scValid && t.cur.byte == 24) = true := by decide
theorem test_sequence_control_one_byte :
    leads (exec (.data 0) (mk .addressesDecoded 22 0x08 0 (List.replicate 23 0))) (fun t =>
      t.result == some (.err (.truncated 22))) = true := by decide
theorem test_control_address4_at_22 :
    leads (exec (.ctlAck 0x03) (mk .sequenceControlResolved 22 0xD0 0x03 (ramp 32))) (fun t =>
      t.fields.addr4 == #v[23, 24, 25, 26, 27, 28] && t.fields.addr4Valid && t.cur.byte == 28) = true := by decide
theorem test_qos_truncated_after_address4 :
    leads (exec (.dataQos 0x03) (mk .address4Resolved 30 0x88 0x03 (ramp 31))) (fun t =>
      t.result == some (.err (.truncated 30))) = true := by decide
theorem test_ht_control_big_endian :
    leads (exec (.dataQos 0x80) (mk .qosResolved 26 0x88 0x80 (List.replicate 26 0 ++ [0x80, 0, 0, 1, 0, 0, 0, 0])))
      (fun t => t.fields.ht == 0x80000001 && t.fields.htValid && t.cur.byte == 30) = true := by decide
theorem test_order_alone_reads_no_ht :
    leads (exec (.ctlAck 0x88) (mk .qosResolved 22 0xD0 0x88 (ramp 26))) (fun t =>
      t.fields.htValid == false && t.cur.byte == 22) = true := by decide
theorem test_body_check_fails_at_header_end :
    leads (exec (.mgtAction 0x80) (mk .htResolved 28 0xD4 0x80 (ramp 28))) (fun t =>
      t.result == some (.err (.truncated 28))) = true := by decide
theorem test_body_of_three_bytes :
    leads (exec (.dataQos 0x83) (mk .htResolved 36 0x88 0x83 (ramp 43))) (fun t =>
      t.fields.hdrLen == 36 && t.fields.bodyOff == 36 && t.fields.bodyLen == 3 && t.cur.byte == 39) = true := by decide
theorem test_integrity_field :
    leads (exec (.dataQos 0x83) (mk .bodyResolved 39 0x88 0x83 (List.replicate 39 0 ++ [0x11, 0x22, 0x33, 0x44])))
      (fun t => t.fields.fcs == 0x11223344 && t.cur.byte == 43) = true := by decide
theorem test_roles_from_the_ds :
    leads (exec (.mgtAction 0x82) (mk .integrityFieldRead 34 0xD4 0x82 (ramp 34))) (fun t =>
      t.stage == .done && t.roles == { role1 := 0x05, role2 := 0x12, role3 := 0x08, role4 := 0x00 }) = true := by decide
theorem test_invalid_address :
    (match readAddress { hardware with addrValid := fun a => a != HwAddress.zero }
        (mk .frameControlDecoded 4 0x08 0 (0x08 :: List.replicate 27 0)) with
      | .raised e _ => e == .invalidAddress 4
      | .ok _ _ => false
      | .fault _ => false
      | .refused _ => false) = true := by decide
theorem test_version_1_fails :
    leads (step (mk .start 0 0 0 (0x09 :: List.replicate 25 0))) (fun t =>
      t.result == some (.err (.unsupportedVersion 0))) = true := by decide
theorem test_one_byte_is_truncated :
    leads (step (mk .start 0 0 0 [0x09])) (fun t => t.result == some (.err (.truncated 0))) = true := by decide

/-! The function `decode` on vectors E1a, E1b, E3c and V-B6. -/

theorem test_decode_e1a : decode hardware (Memory.ofBytes (0x08 :: List.replicate 25 0)) 26 = .err (.truncated 24) := by decide
theorem test_decode_e1b :
    (match decode hardware (Memory.ofBytes (0x08 :: List.replicate 27 0)) 28 with
      | .ok f => f.headerLen == 24 && f.bodyLen == 0 && f.address4 == none && f.sequenceControl == some (0, 0) &&
          f.qosControl == none && f.roles == { role1 := 0x05, role2 := 0x0A, role3 := 0x10, role4 := 0x00 }
      | .err _ => false) = true := by decide
theorem test_decode_cut_by_one :
    (match decode hardware (Memory.ofBytes ([0x88, 0x83] ++ List.replicate 34 0 ++ [0xDE, 0xAD, 0xBE, 0x11, 0x22, 0x33])) 42 with
      | .ok f => f.headerLen == 36 && f.bodyLen == 2 && f.integrityField == 0xBE112233
      | .err _ => false) = true := by decide

/-! The host's ports. -/

theorem test_request_while_busy :
    leads (step ((mk .sequenceControlResolved 24 0x84 0 (ramp 30)).setHost [.request [1, 2]])) (fun t =>
      t.stage == .address4Resolved && t.len == 30 && t.host == []) = true := by decide
theorem test_reset_abandons :
    leads (step ((mk .sequenceControlResolved 24 0x84 0 (ramp 30)).setHost [.reset])) (fun t =>
      t.stage == .idle && t.done == false && t.fc == State.reset.fc && t.len == 30) = true := by decide
theorem test_buffer_write_zero_unlists : (Memory.ofBytes [1, 2, 3]).write 1 0 = [(0, 1), (2, 3)] := by decide

/-! For every statement with hypotheses, states and operands that meet them, at the boundary of each clause. -/

theorem witness_DecodeOfEncodeIsTheClass : (Instr.unsupportedVersion3 0b11 0xF 0xFF).wf = true := by decide

theorem witness_StepInStartRunsTheDecodedClass :
    let s := mk .start 0 0 0 [0x84, 0x03]
    s.stage = .start ∧ s.cur.bit = 0 ∧ s.cur.byte + 2 ≤ s.len ∧ s.hostNow ≠ .reset ∧
      decodeBytes [s.buf.read s.cur.byte, s.buf.read (s.cur.byte + 1)] = .ok (.mgtBeacon 0x03, []) := by decide

theorem witness_StepAfterStartRunsTheClassInProgress :
    let s := mk .qosResolved 24 0x84 0x03 (ramp 40)
    s.stage.waiting = false ∧ s.stage ≠ .start ∧ s.hostNow ≠ .reset ∧ s.fc = (Instr.mgtBeacon 0x03).frameControl := by decide

theorem witness_ShortFrameControlIsTruncated :
    let s := mk .start 0 0 0 [0x09]
    Statements.at s .start 0 ∧ s.len < 2 ∧ s.hostNow ≠ .reset := by decide

/-- For the four statements ControlClassesDecodeAsTheirTable to ExtensionClassesDecodeAsTheirTable. -/
theorem witness_ClassesDecodeAsTheirTable :
    let s := mk .start 2 0 0 [0x84, 0x03]
    s.stage = .start ∧ (.ctlReserved0 0x03, 0x0, .reserved 0x0) ∈ Classes.controlClasses 0x03 ∧
      (.ctlCfEndCfAck 0x03, 0xF, .cfEndCfAck) ∈ Classes.controlClasses 0x03 ∧
      (.mgtBeacon 0x03, 0x8, .beacon) ∈ Classes.managementClasses 0x03 ∧
      (.dataAckPollNullQos 0x03, 0xF, ⟨true, true, true, true, false⟩) ∈ Classes.dataClasses 0x03 ∧
      (.extDmgBeacon 0x03, 0x0, .dmgBeacon) ∈ Classes.extensionClasses 0x03 ∧
      (.extReserved1 0x03, 0x1, .reserved 0x1) ∈ Classes.extensionClasses 0x03 := by decide

theorem witness_UnsupportedVersionsFailInStart :
    (mk .start 2 0 0 [0x4B, 0xFF]).stage = .start ∧
      (Instr.unsupportedVersion3 0b10 0x4 0xFF, (3 : BitVec 2)) ∈ Classes.unsupported 0b10 0x4 0xFF := by decide

theorem witness_BadVersionFailsWhateverFollows :
    let s := mk .start 0 0 0 [0x0B, 0xFF]
    Statements.at s .start 0 ∧ 2 ≤ s.len ∧ (s.buf.read 0).extractLsb' 0 2 ≠ 0 ∧ s.hostNow ≠ .reset := by decide

theorem witness_ClassificationLosesNothing :
    let fc : FrameControl := FrameControl.ofBytes 0xF4 0x00
    let gc : FrameControl := FrameControl.ofBytes 0xF4 0xFF
    fc ≠ gc ∧ family fc = family gc ∧ subkind fc = subkind gc := by decide

theorem witness_PresencePredicatesByClass :
    Instr.dataQos 0x83 ∈ Classes.version0 0x83 ∧ Instr.ctlAck 0x83 ∈ Classes.version0 0x83 ∧
      Instr.mgtAction 0x80 ∈ Classes.withHtOnOrder 0x80 ∧ Instr.mgtBeacon 0x80 ∉ Classes.withHtOnOrder 0x80 := by decide

theorem witness_TakeBitsIsMostSignificantFirst :
    let s := mk .start 0 0 0 (ramp 4)
    let t := s.setCur { byte := 0, bit := 1 }
    8 * s.cur.byte + s.cur.bit.val + 32 ≤ 8 * s.len ∧ 8 * t.len < 8 * t.cur.byte + t.cur.bit.val + 32 := by decide

theorem witness_CursorStaysOnTruncation :
    let s := mk .start 3 0 0 (ramp 4)
    runCursorOp (.takeBits 32) s = .raised (.truncated 3) s ∧ runCursorOp (.takeBytes 2) s = .raised (.truncated 3) s := by
  decide

theorem witness_ByteAlignChecksTheBoundary :
    let s := mk .bodyResolved 3 0 0 (ramp 4)
    s.cur.bit = 0 ∧ (s.setCur { byte := 3, bit := 7 }).cur.bit ≠ 0 ∧ s.stage = .bodyResolved := by decide

theorem witness_ByteOperationsMoveWholeBytes :
    let s := mk .start 2 0 0 (ramp 4)
    s.cur.bit = 0 ∧ s.cur.byte + 2 ≤ s.len ∧ s.len < s.cur.byte + 3 ∧ (s.setCur { byte := 2, bit := 1 }).cur.bit ≠ 0 := by
  decide

theorem witness_IntegerReadsAreBigEndian :
    let s := mk .start 0 0 0 (ramp 4)
    let t := mk .start 3 0 0 (ramp 4)
    (s.setCur { byte := 0, bit := 7 }).cur.bit ≠ 0 ∧
      s.cur.bit = 0 ∧ s.cur.byte + 4 ≤ s.len ∧ t.cur.bit = 0 ∧ t.len < t.cur.byte + 2 ∧
      (mk .start 2 0 0 (ramp 4)).cur.byte + 2 ≤ (mk .start 2 0 0 (ramp 4)).len ∧
      (mk .start 1 0 0 (ramp 4)).len < (mk .start 1 0 0 (ramp 4)).cur.byte + 4 := by decide

theorem witness_OneBitAndWhatRemains :
    let s := (mk .start 0 0 0 (ramp 1)).setCur { byte := 0, bit := 7 }
    let t := mk .start 1 0 0 (ramp 1)
    8 * s.cur.byte + s.cur.bit.val < 8 * s.len ∧ 8 * t.len ≤ 8 * t.cur.byte + t.cur.bit.val ∧ t.cur.bit = 0 := by decide

theorem witness_AddressesTransitionReadsTheFixedFields :
    let s := mk .frameControlDecoded 2 0x84 0 (ramp 22)
    Statements.at s .frameControlDecoded 2 ∧ 22 ≤ s.len := by decide

theorem witness_AddressesTransitionTruncates :
    ([2, 3, 4, 9, 10, 15, 16, 21].all fun n =>
      let s := mk .frameControlDecoded 2 0x84 0 (ramp n)
      decide (Statements.at s .frameControlDecoded 2 ∧ s.len < 22 ∧ s.len = n)) = true := by decide

theorem witness_SequenceControlIsRead :
    let s := mk .addressesDecoded 22 0x84 0 (ramp 24)
    Statements.at s .addressesDecoded 22 ∧ 24 ≤ s.len ∧ Instr.mgtBeacon 0 ∈ Classes.withSequence 0 := by decide

theorem witness_SequenceControlTruncates :
    let s := mk .addressesDecoded 22 0x08 0 (ramp 22)
    let t := mk .addressesDecoded 22 0x08 0 (ramp 23)
    Statements.at s .addressesDecoded 22 ∧ s.len < 24 ∧ s.len ≠ 23 ∧ Statements.at t .addressesDecoded 22 ∧ t.len = 23 ∧
      Instr.data 0 ∈ Classes.withSequence 0 := by decide

theorem witness_SequenceControlAbsentReadsNothing :
    let s := mk .addressesDecoded 22 0xD0 0 (ramp 22)
    Statements.at s .addressesDecoded 22 ∧ Instr.ctlAck 0 ∈ Classes.withoutSequence 0 ∧
      Instr.extReservedF 0 ∈ Classes.withoutSequence 0 := by decide

theorem witness_Address4IsReadWithBothDsFlags :
    let s := mk .sequenceControlResolved 22 0xD0 0x03 (ramp 28)
    let t := mk .sequenceControlResolved 22 0xD0 0x03 (ramp 27)
    Statements.at s .sequenceControlResolved 22 ∧ (Instr.ctlAck 0x03).flags.getLsbD 0 = true ∧
      (Instr.ctlAck 0x03).flags.getLsbD 1 = true ∧ 22 + 6 ≤ s.len ∧ Statements.at t .sequenceControlResolved 22 ∧
      t.len < 22 + 6 := by decide

theorem witness_Address4AbsentReadsNothing :
    (mk .sequenceControlResolved 24 0x08 0x01 (ramp 28)).stage = .sequenceControlResolved ∧
      (Instr.data 0x01).flags.getLsbD 1 = false ∧ (Instr.data 0x02).flags.getLsbD 0 = false := by decide

theorem witness_QosControlIsRead :
    let s := mk .address4Resolved 24 0x88 0 (ramp 26)
    let t := mk .address4Resolved 24 0x88 0 (ramp 25)
    Statements.at s .address4Resolved 24 ∧ Instr.dataQos 0 ∈ Classes.withQos 0 ∧ 24 + 2 ≤ s.len ∧
      Statements.at t .address4Resolved 24 ∧ t.len < 24 + 2 := by decide

theorem witness_QosControlAbsentReadsNothing :
    (mk .address4Resolved 24 0x84 0 (ramp 26)).stage = .address4Resolved ∧ Instr.mgtBeacon 0 ∈ Classes.version0 0 ∧
      Instr.mgtBeacon 0 ∉ Classes.withQos 0 := by decide

theorem witness_HtControlIsReadOnOrder :
    let s := mk .qosResolved 24 0xD4 0x80 (ramp 28)
    let t := mk .qosResolved 24 0xD4 0x80 (ramp 27)
    Statements.at s .qosResolved 24 ∧ (0x80 : Byte).getLsbD 7 = true ∧ Instr.mgtAction 0x80 ∈ Classes.withHtOnOrder 0x80 ∧
      24 + 4 ≤ s.len ∧ Statements.at t .qosResolved 24 ∧ t.len < 24 + 4 := by decide

theorem witness_HtControlAbsentReadsNothing :
    (mk .qosResolved 24 0x84 0x80 (ramp 28)).stage = .qosResolved ∧ Instr.mgtBeacon 0x80 ∈ Classes.version0 0x80 ∧
      Instr.mgtBeacon 0x80 ∉ Classes.withHtOnOrder 0x80 ∧ Instr.mgtAction 0x7F ∈ Classes.version0 0x7F ∧
      (0x7F : Byte).getLsbD 7 = false := by decide

theorem witness_BodyIsWhatIsLeftButFour :
    let s := mk .htResolved 22 0xD0 0 (ramp 26)
    let t := mk .htResolved 22 0xD0 0 (ramp 25)
    Statements.at s .htResolved 22 ∧ 22 + 4 ≤ s.len ∧ Statements.at t .htResolved 22 ∧ t.len < 22 + 4 := by decide

theorem witness_IntegrityFieldIsTheLastFourBytes :
    let s := mk .bodyResolved 22 0xD0 0 (ramp 26)
    4 ≤ s.len ∧ Statements.at s .bodyResolved (s.len - 4) := by decide

theorem witness_LastTransitionYieldsTheFrame :
    (mk .integrityFieldRead 26 0xD0 0 (ramp 26)).stage = .integrityFieldRead := by decide

theorem witness_AddressConstructionIsChecked :
    let cfg : Config := { hardware with addrValid := fun a => a != HwAddress.zero }
    let s := mk .frameControlDecoded 4 0x08 0 (List.replicate 10 0)
    let t := mk .frameControlDecoded 4 0x08 0 (ramp 10)
    s.cur.bit = 0 ∧ s.cur.byte + 6 ≤ s.len ∧
      cfg.addrValid (Vector.ofFn fun k => s.buf.read (s.cur.byte + k.val)) = false ∧ t.cur.byte + 6 ≤ t.len ∧
      cfg.addrValid (Vector.ofFn fun k => t.buf.read (t.cur.byte + k.val)) = true ∧
      (mk .frameControlDecoded 4 0x08 0 (ramp 9)).len < (mk .frameControlDecoded 4 0x08 0 (ramp 9)).cur.byte + 6 := by decide

/-- The clause on a failing read is met by `witness_CursorStaysOnTruncation`; that on a failing step by the second read of
Sequence Control, where the cursor is left inside byte 22. -/
theorem witness_FailureEntryWritesOnlyTheResult :
    (mk .failed 4 0x08 0 (ramp 9)).stage = .failed ∧ (mk .failed 4 0x08 0 (ramp 9)).hostNow = .quiet ∧
    (mk .addressesDecoded 22 0x08 0 (ramp 23)).stage ≠ .failed ∧
    leads (step (mk .addressesDecoded 22 0x08 0 (ramp 23))) (fun t =>
      t.stage == .failed && t.status == .truncated && t.cur == { byte := 22, bit := 4 }) = true := by decide

/-- Both hypotheses of each clause are met in a state of `Failed` that holds the code already. -/
theorem witness_UnreachableKindsAreNeverRaised :
    leads (step ((mk .failed 4 0x08 0 (ramp 9)).setResult .invalidAddress 4)) (fun t => t.status == .invalidAddress) = true ∧
    leads (transition hardware (FrameControl.ofBytes 0x08 0) ((mk .failed 4 0x08 0 (ramp 9)).setResult .inconsistentLength 4))
      (fun t => t.status == .inconsistentLength) = true := by decide

/-- Each class statement about a next state meets one from every `STATE`, on success and on failure. -/
theorem witness_EachTransitionWritesOnlyItsRegisters :
    ([(.idle, 0, 0), (.start, 2, 2), (.frameControlDecoded, 2, 22), (.frameControlDecoded, 2, 3), (.addressesDecoded, 22, 24),
      (.addressesDecoded, 22, 23), (.sequenceControlResolved, 24, 30), (.sequenceControlResolved, 24, 29),
      (.address4Resolved, 30, 32), (.address4Resolved, 30, 31), (.qosResolved, 32, 36), (.qosResolved, 32, 35),
      (.htResolved, 36, 40), (.htResolved, 36, 39), (.bodyResolved, 36, 40), (.integrityFieldRead, 40, 40), (.done, 40, 40),
      (.failed, 36, 39)] : List (Stage × Nat × Nat)).all (fun e =>
      (nextOf (exec (.dataQos 0x83) (mk e.1 e.2.1 0x88 0x83 (ramp e.2.2)))).isSome) = true := by decide

/-- The same states serve the statements of no write to the buffer and of the cursor. -/
theorem witness_NoClassWritesTheBuffer_and_CursorOnlyMovesForward :
    ∃ t, exec (.dataQos 0x83) (mk .qosResolved 32 0x88 0x83 (ramp 36)) = .next t ∧ t.cur.byte = 36 := by
  obtain ⟨t, h, hp⟩ := exists_of_leads
    (show leads (exec (.dataQos 0x83) (mk .qosResolved 32 0x88 0x83 (ramp 36))) (fun t => t.cur.byte == 36) = true by decide)
  exact ⟨t, h, by simpa using hp⟩

theorem witness_AcceptedRequestStartsAfresh :
    ([.idle, .done, .failed] : List Stage).all (fun g =>
      decide (((mk g 26 0xD0 0 (ramp 26)).setHost [.request [0x84, 0]]).stage = g ∧
        ((mk g 26 0xD0 0 (ramp 26)).setHost [.request [0x84, 0]]).hostNow = .request [0x84, 0])) = true ∧
    0 < ([0x84, 0] : List Byte).length := by decide

theorem witness_RequestWhileBusyIsIgnored :
    let s := mk .integrityFieldRead 26 0xD0 0 (ramp 26)
    s.stage ≠ .idle ∧ s.stage ≠ .done ∧ s.stage ≠ .failed := by decide

theorem witness_ResetAbandonsTheTransaction :
    ((mk .htResolved 22 0xD0 0 (ramp 26)).setHost [.reset, .quiet]).hostNow = .reset := by decide

theorem witness_OnlyARequestLeavesAWaitingState :
    ([.idle, .done, .failed] : List Stage).all (fun g => (mk g 26 0xD0 0 (ramp 26)).hostNow == .quiet) = true := by decide

theorem witness_HostSeesOnlyWhatIsValid :
    let s := mk .integrityFieldRead 26 0xD0 0 (ramp 26)
    let u := mk .done 26 0xD0 0 (ramp 26)
    (s.stage ≠ .done ∧ s.stage ≠ .failed) ∧ ((u.stage = .done ∨ u.stage = .failed) ∧ u.status = .ok) ∧
      ([.truncated, .unsupportedVersion, .invalidAddress, .inconsistentLength] : List Status).all (fun k =>
        let t := (mk .failed 2 0xD0 0 (ramp 2)).setResult k 2
        decide ((t.stage = .done ∨ t.stage = .failed) ∧ t.status = k)) = true := by decide

/-- The classification outputs of V-F17 (a `Reserved` code), V-F12 (a named one) and V-F2 (a Data frame). -/
theorem test_classification_outputs :
    ([(0x30, 0, true, none), (0xD0, 0, false, none), (0x88, 2, false, some ⟨false, false, false, true, true⟩)] :
      List (Byte × BitVec 2 × Bool × Option DataSubtype)).all (fun e =>
      let f := registersPorts (mk .done 26 e.1 0 (ramp 26))
      f.familyCode == e.2.1 && f.subReserved == e.2.2.1 && decide (f.dataBits = e.2.2.2)) = true := by decide

/-- A state in the middle of things that meets the invariant: a request for a two-byte frame has just been accepted. It serves
EveryStepFromTheInvariantAnswers too. -/
theorem witness_EveryStepKeepsTheInvariant :
    Safety.Inv (acceptRequest [0xD0, 0x03] State.reset) ∧ ∃ t, step (acceptRequest [0xD0, 0x03] State.reset) = .next t := by
  refine ⟨{ input := ⟨by decide, by decide⟩, cursor := ⟨by decide, fun _ => rfl, fun b h => by cases h; rfl⟩, registers := ?_, result := ?_ }, ?_⟩
  · exact
      { idle := fun h => by cases h
        start := fun _ => rfl
        version := fun h => absurd h (by decide)
        sequence := fun _ => by decide
        address4 := fun _ => by decide
        qos := fun _ => by decide
        ht := fun _ => by decide
        noSequence := fun _ _ => ⟨rfl, rfl⟩
        noAddress4 := fun _ => rfl
        noQos := fun _ => rfl
        noHt := fun _ => rfl
        roles := by decide }
  · exact { noError := fun _ => ⟨rfl, rfl⟩, error := fun h => (by cases h), body := fun h => absurd h (by decide) }
  · obtain ⟨t, h, -⟩ := exists_of_leads
      (show leads (step (acceptRequest [0xD0, 0x03] State.reset)) (fun _ => true) = true by decide)
    exact ⟨t, h⟩

/-- A waiting state that is not reset: a decode has failed. It serves NineTransitionsOrAtMostSeven and NothingSurvivesARequest
too. -/
theorem witness_RunEndsWithTheDecodedResult :
    ((mk .failed 2 0xD0 0 (ramp 2)).setResult .truncated 2).stage.waiting = true ∧ State.reset.stage.waiting = true := by decide

/-- Each clause at its boundary, with `LEN_MAX` 26: a frame of 26 bytes, one of 27, and a step from a buffer of 26. -/
theorem witness_TransactionDecodesForEveryParameter :
    let cfg : Config := { hardware with lenMax := some 26 }
    cfg.lenMax = some 26 ∧ (ramp 26).length ≤ 26 ∧ 26 < (ramp 27).length ∧ State.reset.stage.waiting = true ∧
      (mk .htResolved 22 0xD0 0 (ramp 26)).len ≤ 26 ∧
      leads (stepWith cfg (mk .htResolved 22 0xD0 0 (ramp 26))) (fun _ => true) = true := by decide

/-- Whole runs that end: with `Ok` at the shortest length, with a field that does not fit, and in the body check. -/
theorem witness_SuccessfulResultsMeetTheirInvariants :
    State.reset.stage.waiting = true ∧ ∃ t, Statements.runs State.reset (0xD0 :: List.replicate 25 0) t ∧ t.status = .ok := by
  obtain ⟨t, h, hp⟩ := exists_of_leads (o := Sys2Proof.core.run 10 (State.reset.setHost [.request (0xD0 :: List.replicate 25 0)]))
    (p := fun t => t.status == .ok) (by decide)
  exact ⟨rfl, t, h, by simpa using hp⟩

theorem witness_TruncationHasItsClosedForm :
    ([2, 25, 26].all fun n =>
      let frame := 0xD0 :: List.replicate (n - 1) 0
      let fc := bufferControl (Memory.ofBytes frame)
      let cut := (Statements.presentFields fc).filter fun f => decide (frame.length < f.1 + f.2)
      decide (2 ≤ frame.length) && decide (fc.version = 0) && (cut.isEmpty == (n != 2)) &&
      (decide (headerLen hardware fc + 4 ≤ frame.length) == (n == 26)) &&
      leads (Sys2Proof.core.run 10 (State.reset.setHost [.request frame])) (fun _ => true)) = true := by decide

theorem witness_TruncationHasItsClosedForm_short :
    ([[], [0x09]] : List (List Byte)).all (fun frame => decide (frame.length < 2) &&
      leads (Sys2Proof.core.run 10 (State.reset.setHost [.request frame])) (fun _ => true)) = true := by decide

theorem witness_ClassesDecodeFromTheirShortestLength :
    State.reset.stage.waiting = true ∧ Instr.dataQos 0x83 ∈ Classes.version0 0x83 ∧ Instr.ctlAck 0x00 ∈ Classes.version0 0x00 := by
  decide

theorem witness_FiveFlagsAffectNothing :
    State.reset.stage.waiting = true ∧ (0x83 : Byte) &&& 0x83 = 0xFF &&& 0x83 ∧ (0x83 : Byte) ≠ 0xFF := by decide

end Sys2Proof.Tests
end

section
/-! SUPPORT. What the micro-operations can do to the state, and what a transition, a step and a class therefore leave as it is. -/

namespace Sys2Proof.Machine

variable {α β : Type}

/-! The micro-operations move the cursor forward and write field registers, and do nothing else. -/

/-- `t` is `s` with the cursor where it was or further on, and any field registers written. -/
def ReadsTo (s t : State) : Prop := ∃ c f, t = (s.setCur c).setFields f ∧ s.bitPos ≤ t.bitPos

theorem ReadsTo.refl (s : State) : ReadsTo s s := ⟨s.cur, s.fields, rfl, Nat.le_refl _⟩

theorem ReadsTo.trans {s t u : State} (hst : ReadsTo s t) (htu : ReadsTo t u) : ReadsTo s u := by
  obtain ⟨c, f, rfl, hle⟩ := hst
  obtain ⟨c', f', rfl, hle'⟩ := htu
  exact ⟨c', f', rfl, hle.trans hle'⟩

theorem ReadsTo.setFields (s : State) (f : Fields) : ReadsTo s (s.setFields f) := ⟨s.cur, f, rfl, Nat.le_refl _⟩

theorem ReadsTo.setCur {s : State} {c : Cursor} (h : s.bitPos ≤ (s.setCur c).bitPos) : ReadsTo s (s.setCur c) :=
  ⟨c, s.fields, rfl, h⟩

theorem State.bitPos_setCur_ofBitPos (s : State) (p : Nat) : (s.setCur (Cursor.ofBitPos p)).bitPos = p :=
  Nat.div_add_mod p 8

/-- Every state the operation ends in, with a value or by raising, is read to from `s`. -/
def Res.OnlyReads (s : State) : Res α → Prop
  | .ok _ t => ReadsTo s t
  | .raised _ t => ReadsTo s t
  | .fault _ => True
  | .refused _ => True

theorem Res.OnlyReads.of_readsTo {s t : State} {r : Res α} (h : ReadsTo s t) (hr : r.OnlyReads t) : r.OnlyReads s := by
  cases r with
  | ok _ u => exact h.trans hr
  | raised _ u => exact h.trans hr
  | fault _ => exact hr
  | refused _ => exact hr

theorem Res.OnlyReads.andThen {s : State} {r : Res α} {k : α → State → Res β} (hr : r.OnlyReads s)
    (hk : ∀ a t, (k a t).OnlyReads t) : (r.andThen k).OnlyReads s := by
  cases r with
  | ok a t => exact (hk a t).of_readsTo hr
  | raised _ _ => exact hr
  | fault _ => exact hr
  | refused _ => exact hr

theorem byteAlign_onlyReads (s : State) : (byteAlign s).OnlyReads s := by
  unfold byteAlign
  split_ifs
  · exact ReadsTo.refl s
  · trivial

theorem takeBits_onlyReads (n : Nat) (s : State) : (takeBits n s).OnlyReads s := by
  obtain ⟨-, he⟩ | ⟨-, -, he⟩ | ⟨-, -, he⟩ := takeBits_cases n s <;> rw [he]
  · trivial
  · exact ReadsTo.refl s
  · exact ReadsTo.setCur (by rw [State.bitPos_setCur_ofBitPos]; exact Nat.le_add_right _ _)

theorem takeBytes_onlyReads (n : Nat) (s : State) : (takeBytes n s).OnlyReads s := by
  by_cases ha : s.cur.bit = 0
  · rw [takeBytes_aligned n ha]
    split_ifs
    · exact ReadsTo.refl s
    · exact ReadsTo.setCur (by simp [State.bitPos, ha])
  · unfold takeBytes; rw [byteAlign_misaligned ha]; trivial

theorem skipBytes_onlyReads (n : Nat) (s : State) : (skipBytes n s).OnlyReads s := by
  by_cases ha : s.cur.bit = 0
  · rw [skipBytes_aligned n ha]
    split_ifs
    · exact ReadsTo.refl s
    · exact ReadsTo.setCur (by simp [State.bitPos, ha])
  · unfold skipBytes; rw [byteAlign_misaligned ha]; trivial

theorem readU16_onlyReads (s : State) : (readU16 s).OnlyReads s :=
  (byteAlign_onlyReads s).andThen fun _ t => (takeBits_onlyReads 16 t).andThen fun _ u =>
    (byteAlign_onlyReads u).andThen fun _ v => ReadsTo.refl v

theorem readU32_onlyReads (s : State) : (readU32 s).OnlyReads s :=
  (byteAlign_onlyReads s).andThen fun _ t => (takeBits_onlyReads 32 t).andThen fun _ u =>
    (byteAlign_onlyReads u).andThen fun _ v => ReadsTo.refl v

theorem readFrameControl_onlyReads (s : State) : (readFrameControl s).OnlyReads s := readU16_onlyReads s

theorem readAddress_onlyReads (cfg : Config) (s : State) : (readAddress cfg s).OnlyReads s :=
  (takeBytes_onlyReads 6 s).andThen fun _ t => by split_ifs <;> exact ReadsTo.refl t

/-- An address read into a field register, by whichever of `ADDR1` to `ADDR4` it is (R72, R75). -/
theorem readAddress_into_onlyReads (cfg : Config) (into : HwAddress → Fields → Fields) (s : State) :
    ((readAddress cfg s).andThen fun a t => .ok () (t.setFields (into a t.fields))).OnlyReads s :=
  (readAddress_onlyReads cfg s).andThen fun _ t => ReadsTo.setFields t _

theorem readDuration_onlyReads (s : State) : (readDuration s).OnlyReads s :=
  (readU16_onlyReads s).andThen fun v t => ReadsTo.setFields t { t.fields with durationId := v }

theorem readAddresses_onlyReads (cfg : Config) (s : State) : (readAddresses cfg s).OnlyReads s :=
  (readDuration_onlyReads s).andThen fun _ t =>
  (readAddress_into_onlyReads cfg (fun a f => { f with addr1 := a }) t).andThen fun _ t =>
  (readAddress_into_onlyReads cfg (fun a f => { f with addr2 := a }) t).andThen fun _ t =>
  readAddress_into_onlyReads cfg (fun a f => { f with addr3 := a }) t

theorem readSequence_onlyReads (fc : FrameControl) (s : State) : (readSequence fc s).OnlyReads s := by
  unfold readSequence
  split_ifs
  · exact (byteAlign_onlyReads s).andThen fun _ t => (takeBits_onlyReads 4 t).andThen fun _ u =>
      ((takeBits_onlyReads 12 _).of_readsTo (ReadsTo.setFields u _)).andThen fun _ v =>
      ((byteAlign_onlyReads _).of_readsTo (ReadsTo.setFields v _)).andThen fun _ w => ReadsTo.setFields w _
  · exact ReadsTo.setFields s _

theorem readAddr4_onlyReads (cfg : Config) (fc : FrameControl) (s : State) : (readAddr4 cfg fc s).OnlyReads s := by
  unfold readAddr4
  split_ifs
  · exact readAddress_into_onlyReads cfg (fun a f => { f with addr4 := a, addr4Valid := true }) s
  · exact ReadsTo.setFields s _

theorem readQos_onlyReads (fc : FrameControl) (s : State) : (readQos fc s).OnlyReads s := by
  unfold readQos
  split_ifs
  · exact (readU16_onlyReads s).andThen fun _ t => ReadsTo.setFields t _
  · exact ReadsTo.setFields s _

theorem readHt_onlyReads (cfg : Config) (fc : FrameControl) (s : State) : (readHt cfg fc s).OnlyReads s := by
  unfold readHt
  split_ifs
  · exact (readU32_onlyReads s).andThen fun _ t => ReadsTo.setFields t _
  · exact ReadsTo.setFields s _

theorem resolveBodyLength_onlyReads (s : State) : (resolveBodyLength s).OnlyReads s :=
  (byteAlign_onlyReads s).andThen fun _ t => by dsimp only; split_ifs <;> exact ReadsTo.setFields t _

theorem resolveBody_onlyReads (s : State) : (resolveBody s).OnlyReads s :=
  (resolveBodyLength_onlyReads s).andThen fun n t => (skipBytes_onlyReads n _).of_readsTo (ReadsTo.setFields t _)

theorem readIntegrity_onlyReads (s : State) : (readIntegrity s).OnlyReads s :=
  (readU32_onlyReads s).andThen fun _ t => ReadsTo.setFields t _

/-! The inputs: the buffer, its length and what the host's ports will carry. -/

/-- `t` has the buffer, its length and the host's coming events of `s`. -/
def SameInput (s t : State) : Prop := t.buf = s.buf ∧ t.len = s.len ∧ t.host = s.host

theorem SameInput.refl (s : State) : SameInput s s := ⟨rfl, rfl, rfl⟩

theorem SameInput.trans {s t u : State} (hst : SameInput s t) (htu : SameInput t u) : SameInput s u := by
  obtain ⟨hbuf, hlen, hhost⟩ := hst
  obtain ⟨hbuf', hlen', hhost'⟩ := htu
  exact ⟨hbuf'.trans hbuf, hlen'.trans hlen, hhost'.trans hhost⟩

theorem ReadsTo.sameInput {s t : State} (h : ReadsTo s t) : SameInput s t := by
  obtain ⟨c, f, rfl, -⟩ := h
  exact ⟨rfl, rfl, rfl⟩

/-- The end of a transition writes `STATE`, `STATUS` and `ERR_OFFSET` only (R110). -/
theorem settle_sameInput {g : Stage} {r : Res Unit} {s t : State} (hr : r.OnlyReads s) (h : settle g r = .next t) :
    SameInput s t := by
  cases r with
  | ok _ u => cases h; exact hr.sameInput
  | raised _ u => cases h; exact hr.sameInput
  | fault _ => cases h
  | refused _ => cases h

/-- No transition writes the inputs, whatever the parameters (R3, R28). -/
theorem transition_sameInput {cfg : Config} {fc : FrameControl} {s t : State} (h : transition cfg fc s = .next t) :
    SameInput s t := by
  cases hs : s.stage <;> simp only [transition, hs] at h
  case idle | done | failed => cases h; exact SameInput.refl s
  case start =>
    unfold writeFrameControl at h
    split_ifs at h <;> cases h <;> exact ⟨rfl, rfl, rfl⟩
  case frameControlDecoded => exact settle_sameInput (readAddresses_onlyReads cfg s) h
  case addressesDecoded => exact settle_sameInput (readSequence_onlyReads fc s) h
  case sequenceControlResolved => exact settle_sameInput (readAddr4_onlyReads cfg fc s) h
  case address4Resolved => exact settle_sameInput (readQos_onlyReads fc s) h
  case qosResolved => exact settle_sameInput (readHt_onlyReads cfg fc s) h
  case htResolved => exact settle_sameInput (resolveBody_onlyReads s) h
  case bodyResolved => exact settle_sameInput (readIntegrity_onlyReads s) h
  case integrityFieldRead => cases h; exact ⟨rfl, rfl, rfl⟩

/-- Settles O41: a class is a transition, and no transition writes the inputs. -/
theorem noClassWritesTheBuffer : Obligations.NoClassWritesTheBuffer := by
  intro i s t h
  obtain ⟨hbuf, hlen, hhost⟩ := transition_sameInput ((exec_eq_transition i s).symm.trans h)
  exact ⟨fun a => by rw [hbuf], hbuf, hlen, hhost⟩

end Sys2Proof.Machine
end

section
/-! SUPPORT. The machine with the parameters of R7 as arguments: its transition from each state, its step by the host's event, and
its run when the host gives no signal. -/

namespace Sys2Proof

/-! The frame class of a Frame Control holds that Frame Control (R44, R49). -/

theorem frameControl_decodeControl (st : BitVec 4) (flags : Byte) :
    (decodeControl st flags).frameControl = { version := 0, type := 0, subtype := st, flags := flags } := by
  obtain ⟨n, rfl⟩ : ∃ n : Fin 16, st = BitVec.ofFin n := ⟨st.toFin, rfl⟩
  fin_cases n <;> exact Machine.FrameControl.ofBytes_append _ _ _ flags

theorem frameControl_decodeManagement (st : BitVec 4) (flags : Byte) :
    (decodeManagement st flags).frameControl = { version := 0, type := 1, subtype := st, flags := flags } := by
  obtain ⟨n, rfl⟩ : ∃ n : Fin 16, st = BitVec.ofFin n := ⟨st.toFin, rfl⟩
  fin_cases n <;> exact Machine.FrameControl.ofBytes_append _ _ _ flags

theorem frameControl_decodeData (st : BitVec 4) (flags : Byte) :
    (decodeData st flags).frameControl = { version := 0, type := 2, subtype := st, flags := flags } := by
  obtain ⟨n, rfl⟩ : ∃ n : Fin 16, st = BitVec.ofFin n := ⟨st.toFin, rfl⟩
  fin_cases n <;> exact Machine.FrameControl.ofBytes_append _ _ _ flags

theorem frameControl_decodeExtension (st : BitVec 4) (flags : Byte) :
    (decodeExtension st flags).frameControl = { version := 0, type := 3, subtype := st, flags := flags } := by
  obtain ⟨n, rfl⟩ : ∃ n : Fin 16, st = BitVec.ofFin n := ⟨st.toFin, rfl⟩
  fin_cases n <;> exact Machine.FrameControl.ofBytes_append _ _ _ flags

theorem bitVec2_cases : ∀ v : BitVec 2, v = 0 ∨ v = 1 ∨ v = 2 ∨ v = 3 := by decide

theorem frameControl_decodeVersion0 (ty : BitVec 2) (st : BitVec 4) (flags : Byte) :
    (decodeVersion0 ty st flags).frameControl = { version := 0, type := ty, subtype := st, flags := flags } := by
  obtain rfl | rfl | rfl | rfl := bitVec2_cases ty
  · exact frameControl_decodeControl st flags
  · exact frameControl_decodeManagement st flags
  · exact frameControl_decodeData st flags
  · exact frameControl_decodeExtension st flags

theorem frameControl_decodeFrameControl (fc : FrameControl) : (decodeFrameControl fc).frameControl = fc := by
  obtain ⟨v, ty, st, flags⟩ := fc
  unfold decodeFrameControl
  dsimp only
  obtain rfl | rfl | rfl | rfl := bitVec2_cases v
  · exact frameControl_decodeVersion0 ty st flags
  all_goals exact Machine.FrameControl.ofBytes_append _ ty st flags

/-- `FCW` has Frame Control byte 0 as its high byte and byte 1 as its low one (R44, R62). -/
theorem FrameControl.ofWord_append (fc0 fc1 : Byte) : FrameControl.ofWord (fc0 ++ fc1) = FrameControl.ofBytes fc0 fc1 := by
  unfold FrameControl.ofWord FrameControl.ofBytes
  rw [BitVec.extractLsb'_append_eq_of_le (by decide), BitVec.extractLsb'_append_eq_of_le (by decide),
    BitVec.extractLsb'_append_eq_of_le (by decide), BitVec.extractLsb'_append_eq_of_add_le (by decide),
    BitVec.extractLsb'_eq_self]

end Sys2Proof

namespace Sys2Proof.Machine

variable {cfg : Config} {s t : State}

/-! One transition. -/

theorem execWith_hardware : execWith hardware = exec := by
  funext i s
  exact (exec_eq_transition i s).symm

theorem advanceWith_of_ne_start (h : s.stage ≠ .start) : advanceWith cfg s = transition cfg s.fc s :=
  (if_neg h).trans (congrArg (transition cfg · s) (frameControl_decodeFrameControl s.fc))

theorem transition_of_waiting {fc : FrameControl} (h : s.stage.waiting = true) : transition cfg fc s = .next s := by
  cases hs : s.stage
  case idle | done | failed => simp only [transition, hs]
  all_goals rw [hs] at h; cases h

theorem advanceWith_of_waiting (h : s.stage.waiting = true) : advanceWith cfg s = .next s := by
  rw [advanceWith_of_ne_start, transition_of_waiting h]
  intro hs
  rw [hs] at h
  cases h

/-- No transition writes the inputs; that of `Start` reads Frame Control first. -/
theorem advanceWith_sameInput (h : advanceWith cfg s = .next t) : SameInput s t := by
  by_cases hs : s.stage = .start
  · have hread := readFrameControl_onlyReads s
    replace h : fetchAndRun (execWith cfg) s = .next t := (if_pos hs).symm.trans h
    unfold fetchAndRun at h
    cases hr : readFrameControl s with
    | ok fcw u =>
      rw [hr] at h hread
      exact hread.sameInput.trans (transition_sameInput h)
    | raised e u =>
      rw [hr] at h hread
      cases h
      exact hread.sameInput
    | fault f => rw [hr] at h; cases h
    | refused r => rw [hr] at h; cases h
  · rw [advanceWith_of_ne_start hs] at h
    exact transition_sameInput h

/-! One step. -/

/-- This hardware's step is the parametrized one at its defaults (R7). -/
theorem stepWith_hardware (s : State) : stepWith hardware s = step s := by
  unfold stepWith advanceWith
  rw [execWith_hardware]
  rfl

/-- All that a step can be under the parameters `cfg`, by the host's event and whether the decoder waits (R88, R89, R118, R122). -/
theorem stepWith_cases (cfg : Config) (s : State) :
    (s.hostNow = .reset ∧ stepWith cfg s = .next (hardReset s.sampled)) ∨
    (∃ frame, s.hostNow = .request frame ∧ s.stage.waiting = true ∧ stepWith cfg s = takeRequest cfg frame s.sampled) ∨
    (s.hostNow = .quiet ∧ s.stage.waiting = true ∧ stepWith cfg s = .next s.sampled) ∨
    (s.hostNow ≠ .reset ∧ s.stage.waiting = false ∧ stepWith cfg s = advanceWith cfg s.sampled) := by
  unfold stepWith cycleBy
  cases s.hostNow with
  | reset => exact .inl ⟨rfl, rfl⟩
  | request frame =>
    cases s.stage.waiting with
    | true => exact .inr (.inl ⟨frame, rfl, rfl, rfl⟩)
    | false => exact .inr (.inr (.inr ⟨nofun, rfl, rfl⟩))
  | quiet =>
    cases s.stage.waiting with
    | true => exact .inr (.inr (.inl ⟨rfl, rfl, rfl⟩))
    | false => exact .inr (.inr (.inr ⟨nofun, rfl, rfl⟩))

/-- With no event waiting, a step is a transition: sampling changes nothing, and a waiting decoder stays either way (R16, R89). -/
theorem stepWith_of_no_host (h : s.host = []) : stepWith cfg s = advanceWith cfg s := by
  have hnow : s.hostNow = .quiet := by simp [State.hostNow, h]
  have hsampled : s.sampled = s := by cases s; cases h; rfl
  obtain ⟨hr, -⟩ | ⟨f, hf, -⟩ | ⟨-, hw, he⟩ | ⟨-, -, he⟩ := stepWith_cases cfg s
  · rw [hnow] at hr; cases hr
  · rw [hnow] at hf; cases hf
  · rw [he, hsampled, advanceWith_of_waiting hw]
  · rw [he, hsampled]

/-- The step in which a waiting decoder meets a request (R89). -/
theorem stepWith_request (cfg : Config) (frame : List Byte) (h : s.stage.waiting = true) :
    stepWith cfg (s.setHost [.request frame]) = takeRequest cfg frame (s.setHost []) :=
  if_pos h

/-- `LEN_MAX` admits a length when it bounds it, or bounds nothing (R7). -/
theorem lenFits_iff {len : Nat} : cfg.lenFits len = true ↔ ∀ m, cfg.lenMax = some m → len ≤ m := by
  unfold Config.lenFits
  cases cfg.lenMax <;> simp

/-- A step keeps `L` within `LEN_MAX`: only an accepted request writes it (R7, R14). -/
theorem stepWith_keeps_len_within {m : Nat} (hm : cfg.lenMax = some m) (hs : s.len ≤ m) (h : stepWith cfg s = .next t) :
    t.len ≤ m := by
  obtain ⟨-, he⟩ | ⟨f, -, -, he⟩ | ⟨-, -, he⟩ | ⟨-, -, he⟩ := stepWith_cases cfg s <;> rw [he] at h
  · cases h; exact hs
  · obtain ⟨hfits, hreq⟩ | ⟨-, hreq⟩ := takeRequest_cases cfg f s.sampled <;> rw [hreq] at h <;> cases h
    exact lenFits_iff.mp hfits m hm
  · cases h; exact hs
  · obtain ⟨-, hlen, -⟩ := advanceWith_sameInput h
    exact hlen.trans_le hs

/-! Runs. -/

/-- A run goes on from the next state of its first step. -/
theorem run_succ_of_next {M : Host.Core} {n : Nat} {s t : M.State} (h : M.step s = .next t) :
    M.run (n + 1) s = M.run n t := by
  rw [Host.Core.run, h]

theorem run_succ_of_fault {M : Host.Core} {n : Nat} {s : M.State} {f : M.Fault} (h : M.step s = .fault f) :
    M.run (n + 1) s = .fault f := by
  rw [Host.Core.run, h]

theorem run_succ_of_refused {M : Host.Core} {n : Nat} {s : M.State} {r : M.Refusal} (h : M.step s = .refused r) :
    M.run (n + 1) s = .refused r := by
  rw [Host.Core.run, h]

theorem transitions_succ_of_next {n : Nat} (h : advanceWith cfg s = .next t) :
    transitions cfg (n + 1) s = transitions cfg n t := by
  rw [transitions, h]

/-- With no event waiting, the machine's run is its transitions. -/
theorem coreWith_run_eq_transitions (cfg : Config) (n : Nat) {s : State} (h : s.host = []) :
    (coreWith cfg).run n s = transitions cfg n s := by
  induction n generalizing s with
  | zero => rfl
  | succ n ih =>
    have hstep : (coreWith cfg).step s = advanceWith cfg s := stepWith_of_no_host h
    cases ha : advanceWith cfg s with
    | next t =>
      obtain ⟨-, -, hhost⟩ := advanceWith_sameInput ha
      rw [transitions_succ_of_next ha, ← ih (hhost.trans h)]
      exact run_succ_of_next (hstep.trans ha)
    | fault f => rw [transitions, ha]; exact run_succ_of_fault (hstep.trans ha)
    | refused r => rw [transitions, ha]; exact run_succ_of_refused (hstep.trans ha)

theorem takeRequest_of_fits {frame : List Byte} (h : cfg.lenFits frame.length = true) (s : State) :
    takeRequest cfg frame s = .next (acceptRequest frame s) :=
  if_pos h

theorem takeRequest_of_not_fits {frame : List Byte} (h : cfg.lenFits frame.length = false) (s : State) :
    takeRequest cfg frame s = .refused (.lenMax frame.length) :=
  if_neg (Bool.eq_false_iff.mp h)

theorem transaction_of_fits {frame : List Byte} (h : cfg.lenFits frame.length = true) (s : State) :
    transaction cfg frame s = transitions cfg 9 (acceptRequest frame s) := by
  rw [transaction, takeRequest_of_fits h]

theorem transaction_of_not_fits {frame : List Byte} (h : cfg.lenFits frame.length = false) (s : State) :
    transaction cfg frame s = .refused (.lenMax frame.length) := by
  rw [transaction, takeRequest_of_not_fits h]

/-- From a waiting state, the run on one request is the transaction (R102). -/
theorem coreWith_run_request (cfg : Config) (frame : List Byte) (h : s.stage.waiting = true) :
    (coreWith cfg).run 10 (s.setHost [.request frame]) = transaction cfg frame (s.setHost []) := by
  have hstep : (coreWith cfg).step (s.setHost [.request frame]) = takeRequest cfg frame (s.setHost []) :=
    stepWith_request cfg frame h
  obtain ⟨hfits, hreq⟩ | ⟨hfits, hreq⟩ := takeRequest_cases cfg frame (s.setHost [])
  · rw [transaction_of_fits hfits, ← coreWith_run_eq_transitions cfg 9 rfl]
    exact run_succ_of_next (hstep.trans hreq)
  · rw [transaction_of_not_fits hfits]
    exact run_succ_of_refused (hstep.trans hreq)

end Sys2Proof.Machine
end

section
/-! SUPPORT. The transaction decodes: each transition takes the failures of its own fields in their order or leaves the fields in
their registers, and nine of them in a row take the failures of `decode` or leave the frame it describes. -/

namespace Sys2Proof.Machine

variable {α β : Type} {cfg : Config} {s t : State}

/-! Failures in their order: the one that is taken is the first of them (R109). -/

/-- The failure `e`, when `p` holds. -/
def failWhen (p : Bool) (e : DecodeError) : Option DecodeError := if p then some e else none

theorem failWhen_eq_none {p : Bool} {e : DecodeError} (h : failWhen p e = none) : p = false := by
  cases p with
  | true => cases h
  | false => rfl

/-- The operation raises `f`, or when that is no failure it ends with `a` in `t`. -/
def Res.Yields (r : Res α) (f : Option DecodeError) (a : α) (t : State) : Prop :=
  match f with
  | none => r = .ok a t
  | some e => ∃ u, r = .raised e u

theorem Res.Yields.andThen {r : Res α} {k : α → State → Res β} {f g : Option DecodeError} {a : α} {b : β} {t u : State}
    (hr : r.Yields f a t) (hk : (k a t).Yields g b u) : (r.andThen k).Yields (f.or g) b u := by
  cases f with
  | none => rw [show r = .ok a t from hr]; exact hk
  | some e =>
    obtain ⟨v, rfl⟩ := hr
    exact ⟨v, rfl⟩

theorem Res.Yields.andThen_ok {r : Res α} {k : α → State → Res β} {f : Option DecodeError} {a : α} {b : β} {t u : State}
    (hr : r.Yields f a t) (hk : k a t = .ok b u) : (r.andThen k).Yields f b u :=
  Option.or_none (o := f) ▸ hr.andThen (g := none) hk

theorem Res.yields_ite {p : Prop} [Decidable p] {e : DecodeError} {a : α} {t u : State} :
    (if p then Res.raised e u else .ok a t).Yields (failWhen (decide p) e) a t := by
  by_cases h : p
  · rw [if_pos h, decide_eq_true h]; exact ⟨u, rfl⟩
  · rw [if_neg h, decide_eq_false h]; rfl

/-! What each field leaves in the registers, and which failures it can show, on an aligned cursor. -/

/-- The failures of an address at byte `b` (R72, R73). -/
def addressFailure (cfg : Config) (buf : Memory) (len b : Nat) : Option DecodeError :=
  (failWhen (decide (len < b + 6)) (.truncated b)).or (failWhen (!cfg.addrValid (buf.bytes b 6)) (.invalidAddress b))

theorem readAddress_yields (cfg : Config) (h : s.cur.bit = 0) :
    (readAddress cfg s).Yields (addressFailure cfg s.buf s.len s.cur.byte) (s.buf.bytes s.cur.byte 6)
      (s.setCur (Cursor.atByte (s.cur.byte + 6))) := by
  unfold addressFailure
  rw [readAddress_aligned cfg h]
  by_cases hl : s.len < s.cur.byte + 6
  · rw [if_pos hl, decide_eq_true hl]; exact ⟨_, rfl⟩
  · rw [if_neg hl, decide_eq_false hl]
    cases cfg.addrValid (s.buf.bytes s.cur.byte 6) with
    | true => rfl
    | false => exact ⟨_, rfl⟩

/-- An address read into a field register, by whichever of `ADDR1` to `ADDR4` it is (R72, R75). -/
theorem readAddress_into_yields (cfg : Config) (into : HwAddress → Fields → Fields) (h : s.cur.bit = 0) :
    ((readAddress cfg s).andThen fun a t => .ok () (t.setFields (into a t.fields))).Yields
      (addressFailure cfg s.buf s.len s.cur.byte) ()
      ((s.setCur (Cursor.atByte (s.cur.byte + 6))).setFields (into (s.buf.bytes s.cur.byte 6) s.fields)) :=
  (readAddress_yields cfg h).andThen_ok rfl

/-- The failures of Duration/ID and the three addresses, from byte `b` on (R105). -/
def addressesFailure (cfg : Config) (buf : Memory) (len b : Nat) : Option DecodeError :=
  (failWhen (decide (len < b + 2)) (.truncated b)).or <|
  (addressFailure cfg buf len (b + 2)).or <|
  (addressFailure cfg buf len (b + 2 + 6)).or (addressFailure cfg buf len (b + 2 + 6 + 6))

/-- Duration/ID and the three addresses in their registers (R91). -/
def withAddresses (s : State) : State :=
  (s.setCur (Cursor.atByte (s.cur.byte + 2 + 6 + 6 + 6))).setFields
    { s.fields with
      durationId := s.buf.read16 s.cur.byte
      addr1 := s.buf.bytes (s.cur.byte + 2) 6
      addr2 := s.buf.bytes (s.cur.byte + 2 + 6) 6
      addr3 := s.buf.bytes (s.cur.byte + 2 + 6 + 6) 6 }

theorem readAddresses_yields (cfg : Config) (h : s.cur.bit = 0) :
    (readAddresses cfg s).Yields (addressesFailure cfg s.buf s.len s.cur.byte) () (withAddresses s) := by
  have hduration : (readDuration s).Yields (failWhen (decide (s.len < s.cur.byte + 2)) (.truncated s.cur.byte)) () _ :=
    readDuration_aligned h ▸ Res.yields_ite
  exact hduration.andThen <|
    (readAddress_into_yields cfg (fun a f => { f with addr1 := a }) rfl).andThen <|
    (readAddress_into_yields cfg (fun a f => { f with addr2 := a }) rfl).andThen <|
    readAddress_into_yields cfg (fun a f => { f with addr3 := a }) rfl

/-- Sequence Control in its registers when it is present (R79). -/
def withSequence (fc : FrameControl) (s : State) : State :=
  (s.setCur (Cursor.atByte (s.cur.byte + present (pSc fc) 2))).setFields
    { s.fields with
      scFrag := if pSc fc then (s.buf.read16 s.cur.byte).extractLsb' 12 4 else s.fields.scFrag
      scSeq := if pSc fc then (s.buf.read16 s.cur.byte).extractLsb' 0 12 else s.fields.scSeq
      scValid := pSc fc }

/-- An absent field moves the cursor by no byte. -/
theorem setCur_absent (h : s.cur.bit = 0) (n : Nat) : s.setCur (Cursor.atByte (s.cur.byte + present false n)) = s :=
  congrArg s.setCur (Cursor.eq_atByte h).symm

theorem readSequence_yields (fc : FrameControl) (h : s.cur.bit = 0) :
    (readSequence fc s).Yields (failWhen (pSc fc && decide (s.len < s.cur.byte + 2)) (.truncated s.cur.byte)) ()
      (withSequence fc s) := by
  unfold withSequence
  cases hp : pSc fc with
  | false => rw [readSequence_absent fc s hp, setCur_absent h]; rfl
  | true =>
    rw [readSequence_aligned fc h hp, Bool.true_and]
    by_cases hl : s.len < s.cur.byte + 2
    · rw [decide_eq_true hl, if_pos hl]
      split_ifs <;> exact ⟨_, rfl⟩
    · rw [decide_eq_false hl, if_neg hl, if_neg (by omega)]; rfl

/-- Address4 in its register when it is present (R75). -/
def withAddr4 (fc : FrameControl) (s : State) : State :=
  (s.setCur (Cursor.atByte (s.cur.byte + present (pA4 fc) 6))).setFields
    { s.fields with
      addr4 := if pA4 fc then s.buf.bytes s.cur.byte 6 else s.fields.addr4
      addr4Valid := pA4 fc }

/-- The failures of Address4 at byte `b` (R75). -/
def addr4Failure (cfg : Config) (fc : FrameControl) (buf : Memory) (len b : Nat) : Option DecodeError :=
  (failWhen (pA4 fc && decide (len < b + 6)) (.truncated b)).or
    (failWhen (pA4 fc && !cfg.addrValid (buf.bytes b 6)) (.invalidAddress b))

theorem readAddr4_yields (cfg : Config) (fc : FrameControl) (h : s.cur.bit = 0) :
    (readAddr4 cfg fc s).Yields (addr4Failure cfg fc s.buf s.len s.cur.byte) () (withAddr4 fc s) := by
  unfold withAddr4 addr4Failure
  cases hp : pA4 fc with
  | false => rw [readAddr4_absent cfg fc s hp, setCur_absent h]; rfl
  | true =>
    unfold readAddr4
    rw [if_pos hp]
    exact readAddress_into_yields cfg (fun a f => { f with addr4 := a, addr4Valid := true }) h

/-- QoS Control in its register when it is present (R81). -/
def withQos (fc : FrameControl) (s : State) : State :=
  (s.setCur (Cursor.atByte (s.cur.byte + present (pQos fc) 2))).setFields
    { s.fields with
      qos := if pQos fc then s.buf.read16 s.cur.byte else s.fields.qos
      qosValid := pQos fc }

theorem readQos_yields (fc : FrameControl) (h : s.cur.bit = 0) :
    (readQos fc s).Yields (failWhen (pQos fc && decide (s.len < s.cur.byte + 2)) (.truncated s.cur.byte)) ()
      (withQos fc s) := by
  unfold withQos
  cases hp : pQos fc with
  | false => rw [readQos_absent fc s hp, setCur_absent h]; rfl
  | true => rw [readQos_present fc h hp, Bool.true_and]; exact Res.yields_ite

/-- HT Control in its register when it is present (R83). -/
def withHt (cfg : Config) (fc : FrameControl) (s : State) : State :=
  (s.setCur (Cursor.atByte (s.cur.byte + present (pHt cfg fc) 4))).setFields
    { s.fields with
      ht := if pHt cfg fc then s.buf.read32 s.cur.byte else s.fields.ht
      htValid := pHt cfg fc }

theorem readHt_yields (cfg : Config) (fc : FrameControl) (h : s.cur.bit = 0) :
    (readHt cfg fc s).Yields (failWhen (pHt cfg fc && decide (s.len < s.cur.byte + 4)) (.truncated s.cur.byte)) ()
      (withHt cfg fc s) := by
  unfold withHt
  cases hp : pHt cfg fc with
  | false => rw [readHt_absent cfg fc s hp, setCur_absent h]; rfl
  | true => rw [readHt_present cfg fc h hp, Bool.true_and]; exact Res.yields_ite

/-- Header length and body in their registers (R85, R86). -/
def withBody (s : State) : State :=
  (s.setCur (Cursor.atByte (s.len - 4))).setFields
    { s.fields with hdrLen := s.cur.byte, bodyOff := s.cur.byte, bodyLen := s.len - s.cur.byte - 4 }

theorem resolveBody_yields (h : s.cur.bit = 0) :
    (resolveBody s).Yields (failWhen (decide (s.len < s.cur.byte + 4)) (.truncated s.cur.byte)) () (withBody s) :=
  resolveBody_aligned h ▸ Res.yields_ite

/-- The integrity field in its register (R87). -/
def withIntegrity (s : State) : State :=
  (s.setCur (Cursor.atByte (s.cur.byte + 4))).setFields { s.fields with fcs := s.buf.read32 s.cur.byte }

theorem readIntegrity_fits (h : s.cur.bit = 0) (hfit : s.cur.byte + 4 ≤ s.len) :
    readIntegrity s = .ok () (withIntegrity s) :=
  (readIntegrity_aligned h).trans (if_neg (Nat.not_lt.mpr hfit))

/-! One transition from each state. -/

/-- The outcome is failure entry for `f`, or when that is no failure the next state `t`. -/
def Ends (o : Host.Outcome State Fault Refusal) (f : Option DecodeError) (t : State) : Prop :=
  match f with
  | none => o = .next t
  | some e => ∃ u, o = .next (failureEntry e u)

theorem settle_ends {g : Stage} {r : Res Unit} {f : Option DecodeError} (h : r.Yields f () t) :
    Ends (settle g r) f (t.setStage g) := by
  cases f with
  | none => exact congrArg (settle g) h
  | some e =>
    obtain ⟨u, rfl⟩ := h
    exact ⟨u, rfl⟩

theorem advanceWith_frameControlDecoded_ends (hs : s.stage = .frameControlDecoded) (ha : s.cur.bit = 0) :
    Ends (advanceWith cfg s) (addressesFailure cfg s.buf s.len s.cur.byte)
      ((withAddresses s).setStage .addressesDecoded) := by
  rw [advanceWith_of_ne_start (by simp [hs]), transition, hs]
  exact settle_ends (readAddresses_yields cfg ha)

theorem advanceWith_addressesDecoded_ends (hs : s.stage = .addressesDecoded) (ha : s.cur.bit = 0) :
    Ends (advanceWith cfg s) (failWhen (pSc s.fc && decide (s.len < s.cur.byte + 2)) (.truncated s.cur.byte))
      ((withSequence s.fc s).setStage .sequenceControlResolved) := by
  rw [advanceWith_of_ne_start (by simp [hs]), transition, hs]
  exact settle_ends (readSequence_yields s.fc ha)

theorem advanceWith_sequenceControlResolved_ends (hs : s.stage = .sequenceControlResolved) (ha : s.cur.bit = 0) :
    Ends (advanceWith cfg s) (addr4Failure cfg s.fc s.buf s.len s.cur.byte)
      ((withAddr4 s.fc s).setStage .address4Resolved) := by
  rw [advanceWith_of_ne_start (by simp [hs]), transition, hs]
  exact settle_ends (readAddr4_yields cfg s.fc ha)

theorem advanceWith_address4Resolved_ends (hs : s.stage = .address4Resolved) (ha : s.cur.bit = 0) :
    Ends (advanceWith cfg s) (failWhen (pQos s.fc && decide (s.len < s.cur.byte + 2)) (.truncated s.cur.byte))
      ((withQos s.fc s).setStage .qosResolved) := by
  rw [advanceWith_of_ne_start (by simp [hs]), transition, hs]
  exact settle_ends (readQos_yields s.fc ha)

theorem advanceWith_qosResolved_ends (hs : s.stage = .qosResolved) (ha : s.cur.bit = 0) :
    Ends (advanceWith cfg s) (failWhen (pHt cfg s.fc && decide (s.len < s.cur.byte + 4)) (.truncated s.cur.byte))
      ((withHt cfg s.fc s).setStage .htResolved) := by
  rw [advanceWith_of_ne_start (by simp [hs]), transition, hs]
  exact settle_ends (readHt_yields cfg s.fc ha)

theorem advanceWith_htResolved_ends (hs : s.stage = .htResolved) (ha : s.cur.bit = 0) :
    Ends (advanceWith cfg s) (failWhen (decide (s.len < s.cur.byte + 4)) (.truncated s.cur.byte))
      ((withBody s).setStage .bodyResolved) := by
  rw [advanceWith_of_ne_start (by simp [hs]), transition, hs]
  exact settle_ends (resolveBody_yields ha)

/-- The integrity field fits where the body check has passed, so this transition cannot fail (R87). -/
theorem advanceWith_bodyResolved (hs : s.stage = .bodyResolved) (ha : s.cur.bit = 0) (hfit : s.cur.byte + 4 ≤ s.len) :
    advanceWith cfg s = .next ((withIntegrity s).setStage .integrityFieldRead) := by
  rw [advanceWith_of_ne_start (by simp [hs]), transition, hs]
  exact congrArg (settle _) (readIntegrity_fits ha hfit)

theorem advanceWith_integrityFieldRead (hs : s.stage = .integrityFieldRead) :
    advanceWith cfg s = .next (finish s.fc s) := by
  rw [advanceWith_of_ne_start (by simp [hs]), transition, hs]

/-- The failures of Frame Control at the front of the buffer (R62, R63). -/
def frameControlFailure (buf : Memory) (len : Nat) : Option DecodeError :=
  (failWhen (decide (len < 2)) (.truncated 0)).or
    (failWhen ((bufferControl buf).version != Config.versionSupported) (.unsupportedVersion 0))

/-- Frame Control in its registers (R62). -/
def withFrameControl (s : State) : State := (s.setCur (Cursor.atByte 2)).setFc (bufferControl s.buf)

theorem writeFrameControl_yields (fc : FrameControl) (s : State) :
    (writeFrameControl fc s).Yields (failWhen (fc.version != Config.versionSupported) (.unsupportedVersion 0)) ()
      (s.setFc fc) := by
  unfold writeFrameControl
  by_cases hv : fc.version = Config.versionSupported
  · rw [if_pos hv, bne_eq_false_iff_eq.mpr hv]; rfl
  · rw [if_neg hv, bne_iff_ne.mpr hv]; exact ⟨_, rfl⟩

theorem advanceWith_start_ends (hs : s.stage = .start) (hc : s.cur = Cursor.atByte 0) :
    Ends (advanceWith cfg s) (frameControlFailure s.buf s.len) ((withFrameControl s).setStage .frameControlDecoded) := by
  have hadvance : advanceWith cfg s = fetchAndRun (execWith cfg) s := if_pos hs
  have hread := readFrameControl_aligned (s := s) (by rw [hc]; rfl)
  rw [hadvance, fetchAndRun, hread, hc]
  unfold frameControlFailure
  by_cases hl : s.len < 2
  · rw [if_pos (by exact hl), decide_eq_true hl]; exact ⟨s, rfl⟩
  · rw [if_neg (by exact hl), decide_eq_false hl]
    have hfc : (fetchedInstr (s.buf.read16 0)).frameControl = bufferControl s.buf :=
      (frameControl_decodeFrameControl _).trans (FrameControl.ofWord_append _ _)
    show Ends (transition cfg (fetchedInstr (s.buf.read16 0)).frameControl (s.setCur (Cursor.atByte 2))) _ _
    rw [hfc, transition, State.setCur_stage, hs]
    exact settle_ends (writeFrameControl_yields _ _)

/-! All nine transitions. -/

theorem transitions_of_waiting (n : Nat) (h : s.stage.waiting = true) : transitions cfg n s = .next s := by
  induction n with
  | zero => rfl
  | succ n ih => rw [transitions_succ_of_next (advanceWith_of_waiting h), ih]

/-- A failed transition is the last one (R112); after another the rest follow. -/
theorem Ends.transitions_succ {n : Nat} {f g : Option DecodeError} {u : State} (h : Ends (advanceWith cfg s) f t)
    (hrest : f = none → Ends (transitions cfg n t) g u) : Ends (transitions cfg (n + 1) s) (f.or g) u := by
  cases f with
  | none => rw [transitions_succ_of_next h]; exact hrest rfl
  | some e =>
    obtain ⟨v, hv⟩ := h
    exact ⟨v, (transitions_succ_of_next hv).trans (transitions_of_waiting n rfl)⟩

theorem Ends.transitions_succ_of_next {n : Nat} {f : Option DecodeError} {u : State} (h : Ends (advanceWith cfg s) f t)
    (hrest : f = none → transitions cfg n t = .next u) : Ends (transitions cfg (n + 1) s) f u :=
  Option.or_none (o := f) ▸ h.transitions_succ (g := none) hrest

/-- The state in which a decode of the buffer from `s` is done, when nothing fails. -/
def decodedState (cfg : Config) (s : State) : State :=
  let fc := bufferControl s.buf
  let addresses := (withAddresses ((withFrameControl s).setStage .frameControlDecoded)).setStage .addressesDecoded
  let sequence := (withSequence fc addresses).setStage .sequenceControlResolved
  let addr4 := (withAddr4 fc sequence).setStage .address4Resolved
  let qos := (withQos fc addr4).setStage .qosResolved
  let ht := (withHt cfg fc qos).setStage .htResolved
  let body := (withBody ht).setStage .bodyResolved
  finish fc ((withIntegrity body).setStage .integrityFieldRead)

/-- The failures of a buffer, transition by transition (R105, R109). -/
def failureInOrder (cfg : Config) (buf : Memory) (len : Nat) : Option DecodeError :=
  let fc := bufferControl buf
  (frameControlFailure buf len).or <|
  (addressesFailure cfg buf len 2).or <|
  (failWhen (pSc fc && decide (len < 22 + 2)) (.truncated 22)).or <|
  (addr4Failure cfg fc buf len (offA4 fc)).or <|
  (failWhen (pQos fc && decide (len < offQos fc + 2)) (.truncated (offQos fc))).or <|
  (failWhen (pHt cfg fc && decide (len < offHt fc + 4)) (.truncated (offHt fc))).or <|
  failWhen (decide (len < headerLen cfg fc + 4)) (.truncated (headerLen cfg fc))

/-- The failures of `decode` are the transitions', in the same order. -/
theorem firstFailure_eq (cfg : Config) (buf : Memory) (len : Nat) :
    firstFailure cfg buf len = failureInOrder cfg buf len := by
  have hcons (x : Bool × DecodeError) (xs : List (Bool × DecodeError)) :
      ((x :: xs).find? fun f => f.1).map (fun f => f.2) =
        (failWhen x.1 x.2).or ((xs.find? fun f => f.1).map fun f => f.2) := by
    obtain ⟨p, e⟩ := x
    cases p <;> rfl
  simp only [firstFailure, failures, hcons, List.find?_nil, Option.map_none, Option.or_none]
  simp only [failureInOrder, frameControlFailure, addressesFailure, addressFailure, addr4Failure, Option.or_assoc]

/-- Nine transitions from `Start` take the failures of the buffer in their order, or end in `Done` (R90 to R99). -/
theorem transitions_nine_ends (cfg : Config) (hs : s.stage = .start) (hc : s.cur = Cursor.atByte 0) :
    Ends (transitions cfg 9 s) (failureInOrder cfg s.buf s.len) (decodedState cfg s) := by
  refine (advanceWith_start_ends hs hc).transitions_succ fun _ => ?_
  refine (advanceWith_frameControlDecoded_ends rfl rfl).transitions_succ fun _ => ?_
  refine (advanceWith_addressesDecoded_ends rfl rfl).transitions_succ fun _ => ?_
  refine (advanceWith_sequenceControlResolved_ends rfl rfl).transitions_succ fun _ => ?_
  refine (advanceWith_address4Resolved_ends rfl rfl).transitions_succ fun _ => ?_
  refine (advanceWith_qosResolved_ends rfl rfl).transitions_succ fun _ => ?_
  refine (advanceWith_htResolved_ends rfl rfl).transitions_succ_of_next fun hfit => ?_
  have hfit' : _ + 4 ≤ s.len := Nat.not_lt.mp (of_decide_eq_false (failWhen_eq_none hfit))
  have hintegrity : s.len - 4 + 4 ≤ s.len := (Nat.sub_add_cancel (le_of_add_le_right hfit')).le
  rw [transitions_succ_of_next (advanceWith_bodyResolved rfl rfl hintegrity),
    transitions_succ_of_next (advanceWith_integrityFieldRead rfl)]
  rfl

/-- A field register is looked at only where its field is present. -/
theorem whenValid_congr {p : Bool} {v w : α} (h : p = true → v = w) : whenValid p v = whenValid p w := by
  cases p with
  | true => rw [h rfl]
  | false => rfl

/-- The registers at the end hold the frame that the buffer describes (R100). -/
theorem registersFrame_decodedState (cfg : Config) (s : State) :
    registersFrame (decodedState cfg s) = describedFrame cfg s.buf s.len := by
  have haddr4 : whenValid (decodedState cfg s).fields.addr4Valid (decodedState cfg s).fields.addr4 = _ :=
    whenValid_congr fun hp => if_pos hp
  have hsequence : whenValid (decodedState cfg s).fields.scValid
      ((decodedState cfg s).fields.scFrag, (decodedState cfg s).fields.scSeq) = _ :=
    whenValid_congr fun hp => congrArg₂ Prod.mk (if_pos hp) (if_pos hp)
  have hqos : whenValid (decodedState cfg s).fields.qosValid (decodedState cfg s).fields.qos = _ :=
    whenValid_congr fun hp => if_pos hp
  have hht : whenValid (decodedState cfg s).fields.htValid (decodedState cfg s).fields.ht = _ :=
    whenValid_congr fun hp => if_pos hp
  unfold registersFrame
  rw [haddr4, hsequence, hqos, hht]
  rfl

/-- After a failure the result is the error with its offset (R111). -/
theorem result_failureEntry (e : DecodeError) (s : State) : (failureEntry e s).result = some (.err e) := by
  cases e <;> rfl

theorem result_decodedState (cfg : Config) (s : State) :
    (decodedState cfg s).result = some (.ok (describedFrame cfg s.buf s.len)) := by
  rw [← registersFrame_decodedState]
  rfl

/-- The nine transitions from an accepted request end with the result that `decode` gives (R100). -/
theorem transitions_nine_decode (cfg : Config) (frame : List Byte) (s : State) :
    ∃ t, transitions cfg 9 (acceptRequest frame s) = .next t ∧
      t.result = some (decode cfg (Memory.ofBytes frame) frame.length) := by
  have hends := transitions_nine_ends cfg (s := acceptRequest frame s) rfl rfl
  rw [acceptRequest_buf, acceptRequest_len, ← firstFailure_eq] at hends
  unfold decode
  cases hf : firstFailure cfg (Memory.ofBytes frame) frame.length with
  | none =>
    rw [hf] at hends
    exact ⟨_, hends, result_decodedState cfg _⟩
  | some e =>
    rw [hf] at hends
    obtain ⟨u, hu⟩ := hends
    exact ⟨_, hu, result_failureEntry e u⟩

/-- Settles O54: the transaction is the nine transitions of an accepted request, which decode the frame; a request longer than
`LEN_MAX` is refused before them; and with no event waiting the machine's run is its transitions. -/
theorem transactionDecodesForEveryParameter : Obligations.TransactionDecodesForEveryParameter := by
  refine ⟨stepWith_hardware, fun cfg s frame => ⟨fun hfits => ?_, fun m hm hlong => ?_, coreWith_run_request cfg frame,
    fun m t hm hs h => stepWith_keeps_len_within hm hs h⟩⟩
  · rw [transaction_of_fits (lenFits_iff.mpr hfits)]
    exact transitions_nine_decode cfg frame s
  · have hnot : cfg.lenFits frame.length = false :=
      Bool.eq_false_iff.mpr fun hfits => (lenFits_iff.mp hfits m hm).not_gt hlong
    refine ⟨transaction_of_not_fits hnot s, fun hw => ?_⟩
    rw [stepWith_request cfg frame hw, takeRequest_of_not_fits hnot]

end Sys2Proof.Machine
end

section
/-! SUPPORT. The registers over a transition, a step and a transaction (10_state.md): the cursor moves forward, a waiting decoder
stays, a request forgets what went before, and a run that succeeds leaves the decoded state. -/

namespace Sys2Proof.Machine

variable {cfg : Config} {fc : FrameControl} {s t : State} {frame : List Byte}

/-! The cursor over one transition. -/

/-- All that a transition can be: none, the two that write other registers than the fields, or a read of fields (R88, R90 to R98). -/
theorem transition_cases (cfg : Config) (fc : FrameControl) (s : State) :
    (s.stage.waiting = true ∧ transition cfg fc s = .next s) ∨
    (s.stage = .start ∧ transition cfg fc s = settle .frameControlDecoded (writeFrameControl fc s)) ∨
    (∃ g r, Res.OnlyReads s r ∧ transition cfg fc s = settle g r) ∨
    (s.stage = .integrityFieldRead ∧ transition cfg fc s = .next (finish fc s)) := by
  unfold transition
  cases s.stage
  case idle | done | failed => exact .inl ⟨rfl, rfl⟩
  case start => exact .inr (.inl ⟨rfl, rfl⟩)
  case integrityFieldRead => exact .inr (.inr (.inr ⟨rfl, rfl⟩))
  all_goals refine .inr (.inr (.inl ⟨_, _, ?_, rfl⟩))
  case frameControlDecoded => exact readAddresses_onlyReads cfg s
  case addressesDecoded => exact readSequence_onlyReads fc s
  case sequenceControlResolved => exact readAddr4_onlyReads cfg fc s
  case address4Resolved => exact readQos_onlyReads fc s
  case qosResolved => exact readHt_onlyReads cfg fc s
  case htResolved => exact resolveBody_onlyReads s
  case bodyResolved => exact readIntegrity_onlyReads s

theorem ReadsTo.bitPos_le (h : ReadsTo s t) : s.bitPos ≤ t.bitPos := by
  obtain ⟨_, _, -, hle⟩ := h
  exact hle

/-- The end of a transition leaves the cursor where its action left it (R90 to R99, R110). -/
theorem settle_bitPos_le {g : Stage} {r : Res Unit} (hr : r.OnlyReads s) (h : settle g r = .next t) : s.bitPos ≤ t.bitPos := by
  cases r with
  | ok _ u => cases h; exact ReadsTo.bitPos_le (t := u) hr
  | raised _ u => cases h; exact ReadsTo.bitPos_le (t := u) hr
  | fault _ => cases h
  | refused _ => cases h

/-- Writing the Frame Control registers does not move the cursor: the word has been read already (R62). -/
theorem settle_writeFrameControl_cur {g : Stage} (h : settle g (writeFrameControl fc s) = .next t) : t.cur = s.cur := by
  unfold writeFrameControl at h
  split_ifs at h <;> cases h <;> rfl

/-- No transition moves the cursor back, whatever the parameters (R15). -/
theorem transition_bitPos_le (h : transition cfg fc s = .next t) : s.bitPos ≤ t.bitPos := by
  obtain ⟨-, he⟩ | ⟨-, he⟩ | ⟨g, r, hr, he⟩ | ⟨-, he⟩ := transition_cases cfg fc s <;> rw [he] at h
  · cases h; exact Nat.le_refl _
  · rw [State.bitPos, State.bitPos, settle_writeFrameControl_cur h]
  · exact settle_bitPos_le hr h
  · cases h; exact Nat.le_refl _

/-- Settles O43: a class is a transition, and no transition moves the cursor back. -/
theorem cursorOnlyMovesForward : Obligations.CursorOnlyMovesForward := fun i s _ h =>
  transition_bitPos_le ((exec_eq_transition i s).symm.trans h)

/-! The steps of a waiting decoder. -/

theorem Stage.waiting_iff {g : Stage} : g.waiting = true ↔ g = .idle ∨ g = .done ∨ g = .failed := by
  cases g <;> decide

/-- Without a signal a waiting decoder only samples its ports (R16, R89). -/
theorem step_quiet_of_waiting (hw : s.stage.waiting = true) (hq : s.hostNow = .quiet) : step s = .next s.sampled := by
  obtain ⟨hr, -⟩ | ⟨f, hf, -⟩ | ⟨-, -, he⟩ | ⟨-, hb, -⟩ := step_cases s
  · rw [hq] at hr; cases hr
  · rw [hq] at hf; cases hf
  · exact he
  · rw [hw] at hb; cases hb

/-- Settles O48: sampling changes the coming events only. -/
theorem onlyARequestLeavesAWaitingState : Obligations.OnlyARequestLeavesAWaitingState := fun _ hs hq =>
  step_quiet_of_waiting (Stage.waiting_iff.mpr hs) hq

/-- An accepted request keeps nothing of the state but the host's coming events (R13, R89). -/
theorem acceptRequest_eq (frame : List Byte) (s : State) :
    acceptRequest frame s = (acceptRequest frame State.reset).setHost s.host := rfl

/-- This hardware accepts every request of a waiting decoder, and no event is left after the one request (R7, R89). -/
theorem step_request (hw : s.stage.waiting = true) (frame : List Byte) :
    step (s.setHost [.request frame]) = .next (acceptRequest frame State.reset) := by
  rw [← stepWith_hardware, stepWith_request hardware frame hw, takeRequest_unbounded rfl, acceptRequest_eq]
  rfl

/-- The run on one request is the run of a decoder that was reset before it (R103). -/
theorem core_run_request (hw : s.stage.waiting = true) (frame : List Byte) (n : Nat) :
    Sys2Proof.core.run (1 + n) (s.setHost [.request frame]) = Sys2Proof.core.run n (acceptRequest frame State.reset) := by
  rw [Nat.add_comm]
  exact run_succ_of_next (step_request hw frame)

/-- Settles O56: both runs are that of a decoder that was reset before the request. -/
theorem nothingSurvivesARequest : Obligations.NothingSurvivesARequest := fun _ _ frame n hs hu =>
  (core_run_request hs frame n).trans (core_run_request hu frame n).symm

/-! A transaction that succeeds. -/

/-- With the defaults of R7 the parametrized machine runs as this hardware does. -/
theorem coreWith_hardware_run (n : Nat) (s : State) : (coreWith hardware).run n s = Sys2Proof.core.run n s := by
  unfold coreWith
  rw [funext stepWith_hardware]
  rfl

/-- The run on one request takes the failures of its frame in their order, or ends in the decoded state (R102, R109). -/
theorem core_run_request_ends (hw : s.stage.waiting = true) (frame : List Byte) :
    Ends (Sys2Proof.core.run 10 (s.setHost [.request frame]))
      (failureInOrder hardware (Memory.ofBytes frame) frame.length)
      (decodedState hardware (acceptRequest frame State.reset)) := by
  have hrun : Sys2Proof.core.run 10 (s.setHost [.request frame]) =
      transitions hardware 9 (acceptRequest frame State.reset) := by
    rw [← coreWith_run_eq_transitions hardware 9 rfl, coreWith_hardware_run]
    exact core_run_request hw frame 9
  rw [hrun]
  exact transitions_nine_ends hardware rfl rfl

theorem errorStatus_ne_ok (e : DecodeError) : errorStatus e ≠ .ok := by
  cases e <;> nofun

/-- A run that ends with `STATUS` 0 met no failure and ends in the decoded state (R98, R110). -/
theorem runs_ok (hw : s.stage.waiting = true) (hrun : Statements.runs s frame t) (hok : t.status = .ok) :
    failureInOrder hardware (Memory.ofBytes frame) frame.length = none ∧
      t = decodedState hardware (acceptRequest frame State.reset) := by
  have hends := core_run_request_ends hw frame
  rw [hrun] at hends
  cases hf : failureInOrder hardware (Memory.ofBytes frame) frame.length with
  | none =>
    rw [hf] at hends
    cases hends
    exact ⟨rfl, rfl⟩
  | some e =>
    rw [hf] at hends
    obtain ⟨u, hu⟩ := hends
    cases hu
    exact absurd hok (errorStatus_ne_ok e)

/-- Where nothing fails, the header and the integrity field fit: the body check is the last of the failures (R85). -/
theorem headerLen_fits {buf : Memory} {len : Nat} (h : failureInOrder cfg buf len = none) :
    headerLen cfg (bufferControl buf) + 4 ≤ len := by
  simp only [failureInOrder, Option.or_eq_none_iff] at h
  obtain ⟨-, -, -, -, -, -, hbody⟩ := h
  exact Nat.not_lt.mp (of_decide_eq_false (failWhen_eq_none hbody))

/-- The length registers of the decoded state (R85, R86). -/
theorem decodedState_lengths (cfg : Config) (s : State) :
    (decodedState cfg s).fields.hdrLen = headerLen cfg (bufferControl s.buf) ∧
      (decodedState cfg s).fields.bodyLen = s.len - headerLen cfg (bufferControl s.buf) - 4 ∧
      (decodedState cfg s).fields.bodyOff = headerLen cfg (bufferControl s.buf) := ⟨rfl, rfl, rfl⟩

/-- The valid bits of the decoded state are the presence predicates (R75, R79, R81, R83). -/
theorem decodedState_validBits (cfg : Config) (s : State) :
    (decodedState cfg s).fields.scValid = pSc (decodedState cfg s).fc ∧
      (decodedState cfg s).fields.addr4Valid = pA4 (decodedState cfg s).fc ∧
      (decodedState cfg s).fields.qosValid = pQos (decodedState cfg s).fc ∧
      (decodedState cfg s).fields.htValid = pHt cfg (decodedState cfg s).fc := ⟨rfl, rfl, rfl, rfl⟩

/-- Settles O57: a run that succeeds leaves the decoded state, whose valid bits are the presence predicates and whose header and
integrity field fit in the buffer. -/
theorem successfulResultsMeetTheirInvariants : Obligations.SuccessfulResultsMeetTheirInvariants := by
  intro s t frame hw hrun hok
  obtain ⟨hnone, rfl⟩ := runs_ok hw hrun hok
  obtain ⟨hsc, ha4, hqos, hht⟩ := decodedState_validBits hardware (acceptRequest frame State.reset)
  obtain ⟨hhdr, hlen, hoff⟩ := decodedState_lengths hardware (acceptRequest frame State.reset)
  refine ⟨ha4, hqos, ?_, hsc, hht, hoff.trans hhdr.symm⟩
  have hfit : _ ≤ frame.length := headerLen_fits hnone
  show _ = frame.length
  rw [hhdr, hlen, acceptRequest_buf, acceptRequest_len]
  omega

/-! The reset values. -/

/-- Settles O44: the codes and the registers after reset are those of the table, and reset leaves the inputs. -/
theorem resetValuesAreTheTable : Obligations.ResetValuesAreTheTable :=
  ⟨rfl, fun s => ⟨hardReset_buf s, hardReset_len s⟩, rfl, rfl, rfl, rfl, rfl, rfl, rfl, rfl, rfl, rfl, rfl, rfl⟩

end Sys2Proof.Machine
end

section
/-! SUPPORT. Decoding Frame Control and encoding a frame class are inverse to each other (R44, R46, R49), and what that says of the
opcode rows. -/

namespace Sys2Proof

/-! The round trip, both ways. -/

/-- The version-0 row of a Frame Control is chosen by its type and subtype (R49). -/
theorem decodeFrameControl_version0 (type : BitVec 2) (subtype : BitVec 4) (flags : Byte) :
    decodeFrameControl { version := 0, type := type, subtype := subtype, flags := flags } =
      decodeVersion0 type subtype flags := by
  simp [decodeFrameControl]

/-- A frame class is the one that its own Frame Control decodes to. -/
theorem decodeFrameControl_frameControl (i : Instr) : decodeFrameControl i.frameControl = i := by
  cases i
  case unsupportedVersion1 | unsupportedVersion2 | unsupportedVersion3 =>
    simp [Instr.frameControl, Instr.byte0, Instr.flags, Machine.FrameControl.ofBytes_append, decodeFrameControl]
  all_goals
    exact (congrArg decodeFrameControl (Machine.FrameControl.ofBytes_append _ _ _ _)).trans (decodeFrameControl_version0 _ _ _)

theorem frameControl_injective : Function.Injective Instr.frameControl :=
  Function.LeftInverse.injective decodeFrameControl_frameControl

/-- Settles O1: the two encoded bytes hold the class's own Frame Control. -/
theorem decodeOfEncodeIsTheClass : Obligations.DecodeOfEncodeIsTheClass := fun i rest _ =>
  congrArg (fun j => Except.ok (j, rest)) (decodeFrameControl_frameControl i)

/-- Byte 0 is put together again from the codes read out of it (R44). -/
theorem FrameControl.byte0_ofBytes (fc0 fc1 : Byte) : (FrameControl.ofBytes fc0 fc1).byte0 = fc0 := by
  unfold FrameControl.byte0 FrameControl.ofBytes
  dsimp only
  rw [BitVec.extractLsb'_append_extractLsb'_eq_extractLsb' (start₂ := 4) (len₁ := 2) rfl,
    BitVec.extractLsb'_append_extractLsb'_eq_extractLsb' (start₂ := 2) (len₁ := 2) rfl]
  exact BitVec.extractLsb'_eq_self

/-- A frame class encodes to the bytes that its Frame Control was read from. -/
theorem encode_of_frameControl_eq {i : Instr} {fc0 fc1 : Byte} (h : i.frameControl = FrameControl.ofBytes fc0 fc1) :
    encode i = [fc0, fc1] := by
  have hbyte0 : i.byte0 = fc0 := by
    have hi := congrArg FrameControl.byte0 h
    rwa [Instr.frameControl, FrameControl.byte0_ofBytes, FrameControl.byte0_ofBytes] at hi
  have hflags : i.flags = fc1 := congrArg FrameControl.flags h
  rw [encode, hbyte0, hflags]

/-- Settles O2: decoding is total, and the class decoded holds the Frame Control of the two bytes. -/
theorem encodeOfDecodeIsTheBytes : Obligations.EncodeOfDecodeIsTheBytes := fun fc0 fc1 _ =>
  ⟨decodeFrameControl (FrameControl.ofBytes fc0 fc1), rfl,
    encode_of_frameControl_eq (frameControl_decodeFrameControl (FrameControl.ofBytes fc0 fc1))⟩

/-- Settles O4: each of the seven words is what its class encodes to, and a single byte is no Frame Control. -/
theorem writtenOutWordsDecode : Obligations.WrittenOutWordsDecode := by
  have hdecode (i : Instr) : decodeBytes (encode i ++ []) = .ok (i, []) := decodeOfEncodeIsTheClass i [] rfl
  exact ⟨hdecode (.mgtBeacon _), hdecode (.mgtAction _), hdecode (.ctlAck _), hdecode (.dataQos _), hdecode (.dataNull _),
    hdecode (.extReserved1 _), hdecode (.unsupportedVersion3 0b10 0b0100 _), rfl⟩

end Sys2Proof

namespace Sys2Proof.Classes

variable {i : Instr} {flags : Byte}

/-! The version-0 classes by their codes. -/

/-- The type and subtype codes of the version-0 classes, in the order of `version0` (R65). -/
def version0Codes : List (BitVec 2 × BitVec 4) :=
  [1, 2, 0, 3].flatMap fun type => (List.range 16).map fun subtype => (type, BitVec.ofNat 4 subtype)

/-- The version-0 class with these codes and this flags byte. -/
def ofCodes (flags : Byte) (c : BitVec 2 × BitVec 4) : Instr := decodeVersion0 c.1 c.2 flags

theorem mem_version0Codes (c : BitVec 2 × BitVec 4) : c ∈ version0Codes := by
  obtain ⟨type, subtype⟩ := c
  revert type subtype
  decide

theorem frameControl_ofCodes (flags : Byte) (c : BitVec 2 × BitVec 4) :
    (ofCodes flags c).frameControl = { version := 0, type := c.1, subtype := c.2, flags := flags } :=
  frameControl_decodeVersion0 c.1 c.2 flags

theorem ofCodes_injective (flags : Byte) : Function.Injective (ofCodes flags) := by
  intro c d h
  replace h := congrArg Instr.frameControl h
  rw [frameControl_ofCodes, frameControl_ofCodes] at h
  exact Prod.ext (congrArg FrameControl.type h) (congrArg FrameControl.subtype h)

theorem version0_eq_map (flags : Byte) : version0 flags = version0Codes.map (ofCodes flags) := rfl

theorem mem_version0_iff : i ∈ version0 flags ↔ i.frameControl.version = 0 ∧ i.frameControl.flags = flags := by
  rw [version0_eq_map, List.mem_map]
  constructor
  · rintro ⟨c, -, rfl⟩
    rw [frameControl_ofCodes]
    exact ⟨rfl, rfl⟩
  · rintro ⟨hversion, rfl⟩
    refine ⟨(i.frameControl.type, i.frameControl.subtype), mem_version0Codes _, frameControl_injective ?_⟩
    rw [frameControl_ofCodes, ← hversion]

/-! The opcode rows. -/

/-- The row of a version-0 class matches all of byte 0, and matches the class's own (R49). -/
theorem row_of_mem_version0 : ∀ i ∈ version0 0, i.rowMask = 0xFF ∧ i.rowMatch = i.byte0 := by decide

theorem version0_nodup (flags : Byte) : (version0 flags).Nodup :=
  version0_eq_map flags ▸ List.Nodup.map (ofCodes_injective flags) (by decide)

/-- A version-0 row matches a first byte exactly when it is the row of the class that the byte decodes to. -/
theorem matches_version0_iff (fc0 : Byte) (hi : i ∈ version0 0) :
    fc0 &&& i.rowMask = i.rowMatch ↔ i = decodeFrameControl (FrameControl.ofBytes fc0 0) := by
  obtain ⟨hmask, hmatch⟩ := row_of_mem_version0 i hi
  obtain ⟨-, hflags⟩ := mem_version0_iff.mp hi
  rw [hmask, hmatch, show (0xFF : Byte) = BitVec.allOnes 8 from rfl, BitVec.and_allOnes]
  constructor
  · rintro rfl
    rw [← hflags]
    exact (decodeFrameControl_frameControl i).symm
  · rintro rfl
    have hencode := encode_of_frameControl_eq (frameControl_decodeFrameControl (FrameControl.ofBytes fc0 0))
    exact (List.cons.inj hencode).1.symm

/-- Exactly one version-0 row matches a first byte of version 0, and none matches another. -/
theorem matching_version0_length (fc0 : Byte) :
    ((version0 0).filter fun i => fc0 &&& i.rowMask == i.rowMatch).length = if fc0.extractLsb' 0 2 = 0 then 1 else 0 := by
  have hrow : ∀ i ∈ version0 0, (fc0 &&& i.rowMask == i.rowMatch) = (i == decodeFrameControl (FrameControl.ofBytes fc0 0)) :=
    fun i hi => Bool.eq_iff_iff.mpr (by rw [beq_iff_eq, beq_iff_eq, matches_version0_iff fc0 hi])
  rw [List.filter_congr hrow, ← List.countP_eq_length_filter]
  refine (version0_nodup 0).count.trans (if_congr ?_ rfl rfl)
  rw [mem_version0_iff, frameControl_decodeFrameControl]
  exact and_iff_left rfl

/-- Exactly one version row matches a first byte of another version, and none matches one of version 0. -/
theorem matching_unsupported_length : ∀ fc0 : Byte,
    (((unsupported 0 0 0).map fun e => e.1).filter fun i => fc0 &&& i.rowMask == i.rowMatch).length =
      if fc0.extractLsb' 0 2 = 0 then 0 else 1 := by decide

/-- Settles O3: a first byte of version 0 matches the row of its class alone, and any other matches the row of its version alone. -/
theorem opcodeRowsPartitionTheFirstByte : Obligations.OpcodeRowsPartitionTheFirstByte := by
  refine ⟨rfl, fun fc0 => ?_, by decide, by decide⟩
  rw [List.filter_append, List.length_append, matching_version0_length, matching_unsupported_length]
  split_ifs <;> rfl

end Sys2Proof.Classes
end

section
/-! SUPPORT. A version-0 class decodes exactly from its header length and four bytes on (R6, R43, R52): the fields of a class by its
list, and a decode that fails in nothing but a buffer that ends too soon. -/

namespace Sys2Proof.Classes

open Machine

variable {i : Instr} {flags : Byte}

/-! Which fields the classes of each list have. -/

/-- A list that picks version-0 classes by their codes holds those whose Frame Control has such codes. -/
theorem mem_filter_codes_iff {q : BitVec 2 × BitVec 4 → Bool} (hi : i ∈ version0 flags) :
    i ∈ (version0Codes.filter q).map (ofCodes flags) ↔ q (i.frameControl.type, i.frameControl.subtype) = true := by
  rw [version0_eq_map] at hi
  obtain ⟨c, hc, rfl⟩ := List.mem_map.mp hi
  rw [List.mem_map_of_injective (ofCodes_injective flags), List.mem_filter, frameControl_ofCodes]
  exact and_iff_right hc

/-- Sequence Control is in the classes of `withSequence` (R78). -/
theorem mem_withSequence_iff (hi : i ∈ version0 flags) : i ∈ Classes.withSequence flags ↔ pSc i.frameControl = true :=
  mem_filter_codes_iff (q := fun c => pSc { version := 0, type := c.1, subtype := c.2, flags := 0 }) hi

/-- QoS Control is in the classes of `withQos` (R80). -/
theorem mem_withQos_iff (hi : i ∈ version0 flags) : i ∈ Classes.withQos flags ↔ pQos i.frameControl = true :=
  mem_filter_codes_iff (q := fun c => pQos { version := 0, type := c.1, subtype := c.2, flags := 0 }) hi

/-- The Management classes that have HT Control when `order` is set (R82). -/
def isAction (fc : FrameControl) : Bool :=
  family fc == .management && (subkind fc == .management .action || subkind fc == .management .actionNoAck)

theorem htPresentDefault_eq (fc : FrameControl) : htPresentDefault fc = (order fc && (pQos fc || isAction fc)) := rfl

theorem mem_actions_iff (hi : i ∈ version0 flags) :
    i ∈ [Instr.mgtAction flags, .mgtActionNoAck flags] ↔ isAction i.frameControl = true :=
  mem_filter_codes_iff (q := fun c => isAction { version := 0, type := c.1, subtype := c.2, flags := 0 }) hi

/-- The rest of R82, beside the flag `order`, is the list `withHtOnOrder`. -/
theorem mem_withHtOnOrder_iff (hi : i ∈ version0 flags) :
    i ∈ withHtOnOrder flags ↔ (pQos i.frameControl || isAction i.frameControl) = true := by
  rw [withHtOnOrder, List.mem_append, mem_withQos_iff hi, mem_actions_iff hi, Bool.or_eq_true]

/-- QoS Control comes with Sequence Control: Data frames have both (R78, R80). -/
theorem pSc_of_pQos {fc : FrameControl} (h : pQos fc = true) : pSc fc = true := by
  have hdata : (family fc == .data) = true := (Bool.and_eq_true_iff.mp h).1
  rw [pSc, hdata, Bool.or_true]

/-- The header lengths of R52, by the lists of classes and the flags byte (R43). -/
theorem headerLen_of_mem_version0 (hi : i ∈ version0 flags) : headerLen hardware i.frameControl =
    (if i ∈ Classes.withQos flags then 26 else if i ∈ Classes.withSequence flags then 24 else 22) +
      (if flags.getLsbD 0 && flags.getLsbD 1 then 6 else 0) +
      (if flags.getLsbD 7 && decide (i ∈ withHtOnOrder flags) then 4 else 0) := by
  obtain ⟨-, hflags⟩ := mem_version0_iff.mp hi
  have hfixed : 22 + present (pSc i.frameControl) 2 + present (pQos i.frameControl) 2 =
      if i ∈ Classes.withQos flags then 26 else if i ∈ Classes.withSequence flags then 24 else 22 := by
    simp only [mem_withQos_iff hi, mem_withSequence_iff hi]
    cases hq : pQos i.frameControl with
    | true => rw [pSc_of_pQos hq]; rfl
    | false => cases pSc i.frameControl <;> rfl
  have haddr4 : pA4 i.frameControl = (flags.getLsbD 0 && flags.getLsbD 1) := by rw [pA4, toDs, fromDs, hflags]
  have hht : pHt hardware i.frameControl = (flags.getLsbD 7 && decide (i ∈ withHtOnOrder flags)) := by
    simp only [mem_withHtOnOrder_iff hi, Bool.decide_eq_true]
    exact hflags ▸ htPresentDefault_eq i.frameControl
  rw [← hfixed, ← haddr4, ← hht]
  show 22 + present (pSc i.frameControl) 2 + present (pA4 i.frameControl) 6 + present (pQos i.frameControl) 2 +
    present (pHt hardware i.frameControl) 4 = _ + present (pA4 i.frameControl) 6 + present (pHt hardware i.frameControl) 4
  omega

end Sys2Proof.Classes

namespace Sys2Proof.Machine

/-! A decode on this hardware fails in nothing but a bad version and a buffer that ends too soon. -/

theorem failWhen_eq_none_iff {p : Bool} {e : DecodeError} : failWhen p e = none ↔ p = false :=
  ⟨failWhen_eq_none, fun h => by rw [h]; rfl⟩

/-- A field whose end is in the buffer does not fail, present or absent. -/
theorem not_cut_of_present_le {p : Bool} {b n len : Nat} (h : b + present p n ≤ len) : (p && decide (len < b + n)) = false := by
  cases p with
  | true => exact decide_eq_false (Nat.not_lt.mpr h)
  | false => rfl

/-- R106, R109: with every address accepted, the failures are those of the version and of the length. -/
theorem failureInOrder_hardware_eq_none_iff {buf : Memory} {len : Nat} : failureInOrder hardware buf len = none ↔
    (bufferControl buf).version = 0 ∧ headerLen hardware (bufferControl buf) + 4 ≤ len := by
  constructor
  · intro h
    refine ⟨?_, headerLen_fits h⟩
    simp only [failureInOrder, frameControlFailure, Option.or_eq_none_iff] at h
    obtain ⟨⟨-, hversion⟩, -⟩ := h
    exact bne_eq_false_iff_eq.mp (failWhen_eq_none hversion)
  · rintro ⟨hversion, hbody⟩
    have hht : offHt (bufferControl buf) + present (pHt hardware (bufferControl buf)) 4 ≤ len := le_of_add_le_left hbody
    have hqos : offQos (bufferControl buf) + present (pQos (bufferControl buf)) 2 ≤ len := le_of_add_le_left hht
    have haddr4 : offA4 (bufferControl buf) + present (pA4 (bufferControl buf)) 6 ≤ len := le_of_add_le_left hqos
    have hsequence : 22 + present (pSc (bufferControl buf)) 2 ≤ len := le_of_add_le_left haddr4
    have hfixed : 22 ≤ len := le_of_add_le_left hsequence
    have hvalid (a : HwAddress) : hardware.addrValid a = true := rfl
    simp only [failureInOrder, frameControlFailure, addressesFailure, addressFailure, addr4Failure, Option.or_eq_none_iff,
      failWhen_eq_none_iff, hvalid, Bool.not_true, Bool.and_false, not_cut_of_present_le hsequence,
      not_cut_of_present_le haddr4, not_cut_of_present_le hqos, not_cut_of_present_le hht, decide_eq_false_iff_not,
      bne_eq_false_iff_eq, true_and, and_true]
    exact ⟨⟨by omega, hversion⟩, ⟨by omega, by omega, by omega, by omega⟩, by omega⟩

/-! Runs. -/

variable {s t : State} {frame : List Byte}

/-- The run on one request ends: in `Done` with the decoded state when nothing fails, else in `Failed` (R102, R110). -/
theorem runs_cases (hw : s.stage.waiting = true) (frame : List Byte) : ∃ t, Statements.runs s frame t ∧
    ((failureInOrder hardware (Memory.ofBytes frame) frame.length = none ∧
        t = decodedState hardware (acceptRequest frame State.reset)) ∨
      (failureInOrder hardware (Memory.ofBytes frame) frame.length ≠ none ∧ t.stage = .failed)) := by
  have hends := core_run_request_ends hw frame
  cases hf : failureInOrder hardware (Memory.ofBytes frame) frame.length with
  | none =>
    rw [hf] at hends
    exact ⟨_, hends, .inl ⟨rfl, rfl⟩⟩
  | some e =>
    rw [hf] at hends
    obtain ⟨u, hu⟩ := hends
    exact ⟨_, hu, .inr ⟨nofun, rfl⟩⟩

/-- A presented frame that starts with what a class encodes to has the class's Frame Control. -/
theorem bufferControl_encode (i : Instr) (rest : List Byte) :
    bufferControl (Memory.ofBytes (encode i ++ rest)) = i.frameControl := by
  rw [bufferControl, Memory.read_ofBytes, Memory.read_ofBytes]
  rfl

theorem fixedHdrLen_le_headerLen (cfg : Config) (fc : FrameControl) : 22 ≤ headerLen cfg fc := by
  show 22 ≤ 22 + present (pSc fc) 2 + present (pA4 fc) 6 + present (pQos fc) 2 + present (pHt cfg fc) 4
  omega

/-- Settles O59: a frame of a version-0 class fails in nothing but its length, and its header length is that of R52. -/
theorem classesDecodeFromTheirShortestLength : Obligations.ClassesDecodeFromTheirShortestLength := by
  intro s flags rest hw i hi
  dsimp only
  rw [← Classes.headerLen_of_mem_version0 hi]
  obtain ⟨hversion, -⟩ := Classes.mem_version0_iff.mp hi
  have hlong := fixedHdrLen_le_headerLen hardware i.frameControl
  obtain ⟨t, hrun, hends⟩ := runs_cases hw (encode i ++ rest)
  rw [Ne, failureInOrder_hardware_eq_none_iff, bufferControl_encode, and_iff_right hversion] at hends
  refine ⟨t, hrun, ?_⟩
  obtain ⟨hfit, rfl⟩ | ⟨hshort, hfailed⟩ := hends
  · have hdone : (decodedState hardware (acceptRequest (encode i ++ rest) State.reset)).stage = .done := rfl
    have hcontrol := bufferControl_encode i rest
    obtain ⟨hhdr, -⟩ := decodedState_lengths hardware (acceptRequest (encode i ++ rest) State.reset)
    rw [acceptRequest_buf, hcontrol] at hhdr
    exact ⟨iff_of_true hdone hfit, fun _ => ⟨hhdr, hcontrol⟩, fun hlt => by omega⟩
  · have hnot : t.stage ≠ .done := by rw [hfailed]; nofun
    exact ⟨iff_of_false hnot hshort, fun hdone => absurd hdone hnot, fun _ => hfailed⟩

end Sys2Proof.Machine
end

section
/-! SUPPORT. The BitCursor, operation by operation (R55 to R61): what each answers, when it raises, and when it is the internal
fault. -/

namespace Sys2Proof.Machine

variable {α : Type} {n : Nat} {s t : State}

/-! `take_bits` and `take_bool`. -/

theorem takeBitsWidth_iff : takeBitsWidth n = true ↔ 1 ≤ n ∧ n ≤ 32 := by
  simp [takeBitsWidth, Config.takeBitsMin, Config.takeBitsMax]

theorem takeBits_short (hw : takeBitsWidth n = true) (h : 8 * s.len < s.bitPos + n) :
    takeBits n s = .raised (.truncated s.cur.byte) s :=
  (if_pos hw).trans (if_pos h)

theorem takeBits_fits (hw : takeBitsWidth n = true) (h : s.bitPos + n ≤ 8 * s.len) :
    takeBits n s = .ok (s.buf.bits s.bitPos n) (s.setCur (Cursor.ofBitPos (s.bitPos + n))) :=
  (if_pos hw).trans (if_neg (Nat.not_lt.mpr h))

theorem takeBits_refused (hw : ¬ takeBitsWidth n = true) : takeBits n s = .refused (.takeBitsWidth n) := if_neg hw

/-- Bit number `i` of a run, counted from the most significant, is the buffer's bit `p + i` (R55). -/
theorem Memory.getMsbD_bits (m : Memory) (p : Nat) {n i : Nat} (h : i < n) : (m.bits p n).getMsbD i = m.bit (p + i) := by
  have hback : n - 1 - (n - 1 - i) = i := by omega
  rw [BitVec.getMsbD_eq_getLsbD, decide_eq_true h, Bool.true_and, Memory.getLsbD_bits m p n _ (by omega), hback]

/-- Settles O18: `take_bits` inside its contract raises or reads, and the value it reads is the buffer's run of bits. -/
theorem takeBitsIsMostSignificantFirst : Obligations.TakeBitsIsMostSignificantFirst := by
  intro n s hmin hmax
  have hw : takeBitsWidth n = true := takeBitsWidth_iff.mpr ⟨hmin, hmax⟩
  refine ⟨takeBits_short hw, fun hfits => ⟨_, _, takeBits_fits hw hfits, ?_, rfl, rfl, rfl⟩⟩
  intro i hi
  exact Memory.getMsbD_bits s.buf s.bitPos hi

/-- A run of one bit, as a truth value, is that bit (R56). -/
theorem Memory.bits_one_beq (m : Memory) (p : Nat) : (m.bits p 1 == 1#1) = m.bit p := by
  show ((0#0).concat (m.bit p) == 1#1) = m.bit p
  cases m.bit p <;> rfl

/-- The bit at the cursor is bit `7 - CUR_BIT` of the cursor's byte (R29). -/
theorem bit_bitPos (s : State) : s.buf.bit s.bitPos = (s.buf.read s.cur.byte).getLsbD (7 - s.cur.bit.val) := by
  have hbit := s.cur.bit.isLt
  have hbyte : s.bitPos / 8 = s.cur.byte := by unfold State.bitPos; omega
  have hmod : s.bitPos % 8 = s.cur.bit.val := by unfold State.bitPos; omega
  rw [Memory.bit, hbyte, hmod]

theorem takeBool_short (h : 8 * s.len ≤ s.bitPos) : takeBool s = .raised (.truncated s.cur.byte) s := by
  rw [takeBool, takeBits_short rfl (Nat.lt_succ_of_le h), Res.andThen_raised]

theorem takeBool_fits (h : s.bitPos < 8 * s.len) :
    takeBool s = .ok (s.buf.bit s.bitPos) (s.setCur (Cursor.ofBitPos (s.bitPos + 1))) := by
  rw [takeBool, takeBits_fits rfl h, Res.andThen_ok, Memory.bits_one_beq]

/-- Settles O23: `take_bool` reads the bit at the cursor, and the two counts are their own definitions. -/
theorem oneBitAndWhatRemains : Obligations.OneBitAndWhatRemains := by
  intro s
  refine ⟨fun h => ⟨_, ?_, rfl, State.bitPos_setCur_ofBitPos s (s.bitPos + 1)⟩, takeBool_short, rfl, fun h => if_pos h⟩
  rw [takeBool_fits h, bit_bitPos]

/-! The operations that begin with `byte_align`: off a boundary each is the internal fault. -/

theorem byteAlign_andThen_misaligned (h : s.cur.bit ≠ 0) (k : Unit → State → Res α) :
    (byteAlign s).andThen k = .fault .misaligned := by
  rw [byteAlign_misaligned h, Res.andThen_fault]

theorem takeBytes_misaligned (n : Nat) (h : s.cur.bit ≠ 0) : takeBytes n s = .fault .misaligned :=
  byteAlign_andThen_misaligned h _

theorem skipBytes_misaligned (n : Nat) (h : s.cur.bit ≠ 0) : skipBytes n s = .fault .misaligned :=
  byteAlign_andThen_misaligned h _

theorem readU16_misaligned (h : s.cur.bit ≠ 0) : readU16 s = .fault .misaligned := byteAlign_andThen_misaligned h _

theorem readU32_misaligned (h : s.cur.bit ≠ 0) : readU32 s = .fault .misaligned := byteAlign_andThen_misaligned h _

theorem readAddresses_misaligned (cfg : Config) (h : s.cur.bit ≠ 0) : readAddresses cfg s = .fault .misaligned := by
  rw [readAddresses, readDuration, readU16_misaligned h]
  rfl

theorem resolveBody_misaligned (h : s.cur.bit ≠ 0) : resolveBody s = .fault .misaligned := by
  rw [resolveBody, resolveBodyLength, byteAlign_andThen_misaligned h, Res.andThen_fault]

theorem readIntegrity_misaligned (h : s.cur.bit ≠ 0) : readIntegrity s = .fault .misaligned := by
  rw [readIntegrity, readU32_misaligned h, Res.andThen_fault]

/-- The transitions whose first operation is always on a byte boundary fault off it, whatever the class (R57, R114). -/
theorem transition_misaligned (cfg : Config) (fc : FrameControl) (h : s.cur.bit ≠ 0)
    (hs : s.stage = .frameControlDecoded ∨ s.stage = .htResolved ∨ s.stage = .bodyResolved) :
    transition cfg fc s = .fault .misaligned := by
  obtain hs | hs | hs := hs <;> simp only [transition, hs]
  · rw [readAddresses_misaligned cfg h]; rfl
  · rw [resolveBody_misaligned h]; rfl
  · rw [readIntegrity_misaligned h]; rfl

/-- Settles O20: a class is a transition, and the three transitions begin with an operation that checks the boundary. -/
theorem byteAlignChecksTheBoundary : Obligations.ByteAlignChecksTheBoundary := fun s =>
  ⟨byteAlign_aligned, byteAlign_misaligned, fun h hs i =>
    (exec_eq_transition i s).trans (transition_misaligned hardware i.frameControl h hs)⟩

/-- Settles O21: on a boundary both operations check the whole width and move by it. -/
theorem byteOperationsMoveWholeBytes : Obligations.ByteOperationsMoveWholeBytes := by
  intro n s
  refine ⟨fun h => ⟨takeBytes_misaligned n h, skipBytes_misaligned n h⟩, fun h hshort => ?_, fun h hfits => ?_⟩ <;>
    rw [takeBytes_aligned n h, skipBytes_aligned n h]
  · exact ⟨if_pos hshort, if_pos hshort⟩
  · exact ⟨if_neg (Nat.not_lt.mpr hfits), if_neg (Nat.not_lt.mpr hfits)⟩

/-- Settles O22: on a boundary both readers check their width and answer the big-endian integer there. -/
theorem integerReadsAreBigEndian : Obligations.IntegerReadsAreBigEndian := by
  intro s
  refine ⟨fun h => ⟨readU16_misaligned h, readU32_misaligned h⟩, fun h => ?_⟩
  rw [readU16_aligned h, readU32_aligned h]
  exact ⟨fun hfits => if_neg (Nat.not_lt.mpr hfits), fun hshort => if_pos hshort,
    fun hfits => if_neg (Nat.not_lt.mpr hfits), fun hshort => if_pos hshort⟩

/-! Truncation, whichever the operation. -/

theorem byteAlign_ne_raised (s t : State) (e : DecodeError) : byteAlign s ≠ .raised e t := by
  unfold byteAlign
  split_ifs <;> nofun

/-- Handing the value on raises only what the operation itself raised (R99). -/
theorem Res.andThen_value_raised {β : Type} {r : Res α} {f : α → β} {e : DecodeError}
    (h : (r.andThen fun a u => .ok (f a) u) = .raised e t) : r = .raised e t := by
  cases r with
  | raised _ _ => cases h; rfl
  | ok _ _ => cases h
  | fault _ => cases h
  | refused _ => cases h

theorem takeBool_raised {e : DecodeError} (h : takeBool s = .raised e t) : t = s ∧ e = .truncated s.cur.byte :=
  takeBits_raised (Res.andThen_value_raised h)

/-- A BitCursor operation that raises has changed nothing and records the cursor's byte (R61). -/
theorem runCursorOp_raised {op : CursorOp} {e : DecodeError} (h : runCursorOp op s = .raised e t) :
    t = s ∧ e = .truncated s.cur.byte := by
  cases op with
  | takeBits n => exact takeBits_raised (Res.andThen_value_raised h)
  | takeBool => exact takeBool_raised (Res.andThen_value_raised h)
  | byteAlign => exact absurd (Res.andThen_value_raised (f := fun _ => CursorValue.none) h) (byteAlign_ne_raised s t e)
  | takeBytes n => exact takeBytes_raised (Res.andThen_value_raised h)
  | skipBytes n => exact skipBytes_raised (Res.andThen_value_raised (f := fun _ => CursorValue.none) h)
  | readU16 => exact readU16_raised (Res.andThen_value_raised h)
  | readU32 => exact readU32_raised (Res.andThen_value_raised h)
  | remainingBits => cases h
  | remainingBytes => cases h

/-- Settles O19: a width outside the contract is refused, and of the nine operations each that raises has changed nothing. -/
theorem cursorStaysOnTruncation : Obligations.CursorStaysOnTruncation := by
  refine ⟨fun n s hn => ?_, fun op s t off h => ?_⟩
  · have hw : ¬ takeBitsWidth n = true := by rw [takeBitsWidth_iff]; omega
    rw [runCursorOp, takeBits_refused hw, Res.andThen_refused]
  · obtain ⟨hstate, herror⟩ := runCursorOp_raised h
    cases herror
    exact ⟨hstate, rfl⟩

end Sys2Proof.Machine
end

section
/-! SUPPORT. Frame Control (41_frame_control.md): the classification gives back the codes (R65 to R70), a step in `Start` is the
class that the two bytes at the cursor select (R62), and what the first transition of a class writes (R62, R63). -/

namespace Sys2Proof.Machine

variable {fc gc : FrameControl} {i : Instr} {s : State} {c d : BitVec 4}

/-! The classification as a function of the codes. -/

/-- The family's output code is the type code (R19, R65). -/
theorem familyCode_family (fc : FrameControl) : familyCode (family fc) = fc.type := by
  obtain ⟨version, type, subtype, flags⟩ := fc
  obtain rfl | rfl | rfl | rfl := bitVec2_cases type <;> simp [family, familyCode]

theorem familyCode_injective : Function.Injective familyCode := by
  intro f g
  cases f <;> cases g <;> decide

/-- A frame is of a family exactly when its type code is the family's (R65). -/
theorem family_eq_iff {f : Family} : family fc = f ↔ fc.type = familyCode f := by
  rw [← familyCode_family fc, familyCode_injective.eq_iff]

theorem subkind_of_control (h : family fc = .control) :
    subkind fc = .control (controlTable.getD fc.subtype.toNat (.reserved fc.subtype)) := by rw [subkind, h]

theorem subkind_of_management (h : family fc = .management) :
    subkind fc = .management (managementTable.getD fc.subtype.toNat (.reserved fc.subtype)) := by rw [subkind, h]

theorem subkind_of_data (h : family fc = .data) : subkind fc = .data (dataSubtype fc.subtype) := by rw [subkind, h]

theorem subkind_of_extension (h : family fc = .extension) :
    subkind fc = .extension (extensionSubtype fc.subtype) := by rw [subkind, h]

/-- A table of sixteen entries that lists none twice tells the subtype codes apart, whatever its default. -/
theorem subtype_eq_of_table_eq {α : Type} {table : List α} (hlength : table.length = 16) (hnodup : table.Nodup)
    {x y : α} (h : table.getD c.toNat x = table.getD d.toNat y) : c = d := by
  have hc : c.toNat < table.length := hlength ▸ c.isLt
  have hd : d.toNat < table.length := hlength ▸ d.isLt
  rw [List.getD_eq_getElem _ _ hc, List.getD_eq_getElem _ _ hd, hnodup.getElem_inj_iff] at h
  exact BitVec.eq_of_toNat_eq h

/-- The Data bits are all of the subtype code (R68). -/
theorem dataSubtype_injective : Function.Injective dataSubtype := by decide

/-- `Reserved` carries its code, and no other code than 0 is assigned (R69, R70). -/
theorem extensionSubtype_injective : Function.Injective extensionSubtype := by
  intro c d h
  unfold extensionSubtype at h
  split_ifs at h with hc hd
  · rw [hc, hd]
  · exact ExtensionSubtype.reserved.inj h

theorem subtype_eq_of_subkind_eq (hfamily : family fc = family gc) (h : subkind fc = subkind gc) :
    fc.subtype = gc.subtype := by
  cases hf : family fc <;> have hg := hfamily.symm.trans hf
  case control =>
    rw [subkind_of_control hf, subkind_of_control hg] at h
    exact subtype_eq_of_table_eq (table := controlTable) rfl (by decide) (Subkind.control.inj h)
  case management =>
    rw [subkind_of_management hf, subkind_of_management hg] at h
    exact subtype_eq_of_table_eq (table := managementTable) rfl (by decide) (Subkind.management.inj h)
  case data =>
    rw [subkind_of_data hf, subkind_of_data hg] at h
    exact dataSubtype_injective (Subkind.data.inj h)
  case extension =>
    rw [subkind_of_extension hf, subkind_of_extension hg] at h
    exact extensionSubtype_injective (Subkind.extension.inj h)

/-- Settles O14: the family's code is the type, and within a family the subtype codes have different meanings. -/
theorem classificationLosesNothing : Obligations.ClassificationLosesNothing := by
  intro fc gc hfamily hsubkind
  have htype : fc.type = gc.type := (family_eq_iff.mp hfamily).trans (familyCode_family gc)
  exact ⟨htype, subtype_eq_of_subkind_eq hfamily hsubkind⟩

/-- Settles O15: each flag is read from its bit of the second byte. -/
theorem flagsAreTheBitsOfByteOne : Obligations.FlagsAreTheBitsOfByteOne := fun _ _ =>
  ⟨rfl, rfl, rfl, rfl, rfl, rfl, rfl, rfl, rfl⟩

/-! A step in `Start`. -/

/-- Unless it is reset, a decoder that does not wait makes a transition (R88, R122). -/
theorem step_of_busy (hw : s.stage.waiting = false) (hr : s.hostNow ≠ .reset) : step s = advance s.sampled := by
  obtain ⟨h, -⟩ | ⟨f, -, h, -⟩ | ⟨-, h, -⟩ | ⟨-, -, he⟩ := step_cases s
  · exact absurd h hr
  · rw [hw] at h; cases h
  · rw [hw] at h; cases h
  · exact he

/-- A step in `Start` on an aligned cursor reads Frame Control whole, then runs the class it selects (R62, D12). -/
theorem step_start (hs : s.stage = .start) (ha : s.cur.bit = 0) (hr : s.hostNow ≠ .reset) :
    step s =
      if s.len < s.cur.byte + 2 then .next (failureEntry (.truncated s.cur.byte) s.sampled)
      else exec (fetchedInstr (s.buf.read16 s.cur.byte)) (s.sampled.setCur (Cursor.atByte (s.cur.byte + 2))) :=
  (step_of_busy (by rw [hs]; rfl) hr).trans (advance_start hs ha)

/-- The class that `FCW` selects is the one that its two bytes decode to (R44, R62). -/
theorem fetchedInstr_read16 (m : Memory) (b : Nat) :
    fetchedInstr (m.read16 b) = decodeFrameControl (FrameControl.ofBytes (m.read b) (m.read (b + 1))) :=
  congrArg decodeFrameControl (FrameControl.ofWord_append _ _)

/-- Settles O5: Frame Control fits, and the class it selects is the one that its bytes decode to. -/
theorem stepInStartRunsTheDecodedClass : Obligations.StepInStartRunsTheDecodedClass := by
  intro s i hs ha hfits hr hdecode
  cases hdecode
  rw [step_start hs ha hr, if_neg (Nat.not_lt.mpr hfits), fetchedInstr_read16]
  rfl

/-- Settles O7: at `(0, 0)` Frame Control does not fit in fewer than two bytes. -/
theorem shortFrameControlIsTruncated : Obligations.ShortFrameControlIsTruncated := by
  rintro s ⟨hs, hcur⟩ hshort hr
  have hbyte : s.cur.byte = 0 := congrArg Cursor.byte hcur
  rw [step_start hs (congrArg Cursor.bit hcur) hr, hbyte, if_pos hshort]
  rfl

/-! The first transition of a class. -/

/-- A class of the supported version completes Frame Control (R62). -/
theorem exec_start_supported (hs : s.stage = .start) (hv : i.frameControl.version = Config.versionSupported) :
    exec i s = .next ((s.setFc i.frameControl).setStage .frameControlDecoded) := by
  rw [exec_eq_transition, transition, hs]
  exact congrArg (settle _) (if_pos hv)

/-- A class of another version fails, with its Frame Control written before the check (R62, R63). -/
theorem exec_start_unsupported (hs : s.stage = .start) (hv : i.frameControl.version ≠ Config.versionSupported) :
    exec i s = .next (failureEntry (.unsupportedVersion 0) (s.setFc i.frameControl)) := by
  rw [exec_eq_transition, transition, hs]
  exact congrArg (settle _) (if_neg hv)

/-- The version-0 class of two codes writes those codes and the flags byte (R62). -/
theorem exec_start_decodeVersion0 (hs : s.stage = .start) (type : BitVec 2) (subtype : BitVec 4) (flags : Byte) :
    exec (decodeVersion0 type subtype flags) s = .next { s with
      stage := .frameControlDecoded, fc := { version := 0, type := type, subtype := subtype, flags := flags } } := by
  have hfc := frameControl_decodeVersion0 type subtype flags
  rw [exec_start_supported hs (by rw [hfc]), hfc]
  rfl

end Sys2Proof.Machine

namespace Sys2Proof.Classes

/-! Each list of version-0 classes is its row decoder and its rule's table over the sixteen subtype codes. -/

/-- The subtype codes in their order. -/
def subtypeCodes : List (BitVec 4) := (List.range 16).map (BitVec.ofNat 4)

theorem controlClasses_eq_map (flags : Byte) : controlClasses flags =
    subtypeCodes.map fun c => (decodeControl c flags, c, Machine.controlTable.getD c.toNat (.reserved c)) := rfl

theorem managementClasses_eq_map (flags : Byte) : managementClasses flags =
    subtypeCodes.map fun c => (decodeManagement c flags, c, Machine.managementTable.getD c.toNat (.reserved c)) := rfl

theorem dataClasses_eq_map (flags : Byte) : dataClasses flags =
    subtypeCodes.map fun c => (decodeData c flags, c, Machine.dataSubtype c) := rfl

theorem extensionClasses_eq_map (flags : Byte) : extensionClasses flags =
    subtypeCodes.map fun c => (decodeExtension c flags, c, Machine.extensionSubtype c) := rfl

/-- The version classes hold their version, which is none that is supported, and the codes they carry (R63). -/
theorem frameControl_of_mem_unsupported {type : BitVec 2} {subtype : BitVec 4} {flags : Byte} {e : Instr × BitVec 2}
    (he : e ∈ unsupported type subtype flags) :
    e.1.frameControl = { version := e.2, type := type, subtype := subtype, flags := flags } ∧
      e.2 ≠ Config.versionSupported := by
  simp only [unsupported, List.mem_cons, List.not_mem_nil, or_false] at he
  obtain rfl | rfl | rfl := he <;> exact ⟨Machine.FrameControl.ofBytes_append _ type subtype flags, by dsimp only; decide⟩

end Sys2Proof.Classes

namespace Sys2Proof.Machine

/-- Settles O8: a Control class is the version-0 class of type 0 and its code, and its `SUBKIND` is the table's entry there. -/
theorem controlClassesDecodeAsTheirTable : Obligations.ControlClassesDecodeAsTheirTable := by
  intro flags s hs e he
  rw [Classes.controlClasses_eq_map, List.mem_map] at he
  obtain ⟨c, -, rfl⟩ := he
  have hfamily : family { version := 0, type := 0, subtype := c, flags := flags } = .control := family_eq_iff.mpr rfl
  exact ⟨_, exec_start_decodeVersion0 hs 0 c flags, rfl, hfamily, subkind_of_control hfamily⟩

/-- Settles O9: a Management class is the version-0 class of type 1 and its code, and its `SUBKIND` is the table's entry there. -/
theorem managementClassesDecodeAsTheirTable : Obligations.ManagementClassesDecodeAsTheirTable := by
  intro flags s hs e he
  rw [Classes.managementClasses_eq_map, List.mem_map] at he
  obtain ⟨c, -, rfl⟩ := he
  have hfamily : family { version := 0, type := 1, subtype := c, flags := flags } = .management := family_eq_iff.mpr rfl
  exact ⟨_, exec_start_decodeVersion0 hs 1 c flags, rfl, hfamily, subkind_of_management hfamily⟩

/-- Settles O10: a Data class is the version-0 class of type 2 and its code, and its `SUBKIND` is the bits of the code. -/
theorem dataClassesDecodeAsTheirBits : Obligations.DataClassesDecodeAsTheirBits := by
  intro flags s hs e he
  rw [Classes.dataClasses_eq_map, List.mem_map] at he
  obtain ⟨c, -, rfl⟩ := he
  have hfamily : family { version := 0, type := 2, subtype := c, flags := flags } = .data := family_eq_iff.mpr rfl
  exact ⟨_, exec_start_decodeVersion0 hs 2 c flags, rfl, hfamily, subkind_of_data hfamily, rfl⟩

/-- Settles O11: an Extension class is the version-0 class of type 3 and its code. -/
theorem extensionClassesDecodeAsTheirTable : Obligations.ExtensionClassesDecodeAsTheirTable := by
  intro flags s hs e he
  rw [Classes.extensionClasses_eq_map, List.mem_map] at he
  obtain ⟨c, -, rfl⟩ := he
  have hfamily : family { version := 0, type := 3, subtype := c, flags := flags } = .extension := family_eq_iff.mpr rfl
  exact ⟨_, exec_start_decodeVersion0 hs 3 c flags, rfl, hfamily, subkind_of_extension hfamily, rfl⟩

/-- Settles O12: a version class holds a version that is not supported, and its Frame Control is written before the check. -/
theorem unsupportedVersionsFailInStart : Obligations.UnsupportedVersionsFailInStart := by
  intro type subtype flags s hs e he
  obtain ⟨hfc, hv⟩ := Classes.frameControl_of_mem_unsupported he
  rw [exec_start_unsupported hs (by rw [hfc]; exact hv), hfc]
  rfl

end Sys2Proof.Machine
end

section
/-! SUPPORT. The addresses (42_address_resolver.md): what the fixed fields and Address4 leave behind when the buffer ends in one of
them (R71, R72, R75, R110), and the roles that the DS flags give them (R77). -/

namespace Sys2Proof.Machine

variable {α β : Type} {i : Instr} {s : State}

/-! Duration/ID and the three addresses on this hardware, which accepts every address. -/

/-- What follows a check runs only when the check has passed (R99). -/
theorem Res.andThen_ite {p : Prop} [Decidable p] {e : DecodeError} {a : α} {t u : State} (k : α → State → Res β) :
    (if p then Res.raised e u else .ok a t).andThen k = if p then .raised e u else k a t := by
  split_ifs <;> rfl

/-- An address that does not fit leaves the state (R61, R72). -/
theorem readAddress_short (cfg : Config) (h : s.cur.bit = 0) (hshort : s.len < s.cur.byte + 6) :
    readAddress cfg s = .raised (.truncated s.cur.byte) s :=
  (readAddress_aligned cfg h).trans (if_pos hshort)

/-- An address that fits is judged by `ADDR_VALID`, with the cursor past its six bytes (R72, R73). -/
theorem readAddress_fits (cfg : Config) (h : s.cur.bit = 0) (hfits : s.cur.byte + 6 ≤ s.len) :
    readAddress cfg s =
      if cfg.addrValid (s.buf.bytes s.cur.byte 6) then
        .ok (s.buf.bytes s.cur.byte 6) (s.setCur (Cursor.atByte (s.cur.byte + 6)))
      else .raised (.invalidAddress s.cur.byte) (s.setCur (Cursor.atByte (s.cur.byte + 6))) :=
  (readAddress_aligned cfg h).trans (if_neg (Nat.not_lt.mpr hfits))

/-- Settles O38: an address that does not fit leaves the state, and one that fits is judged with the cursor past it. -/
theorem addressConstructionIsChecked : Obligations.AddressConstructionIsChecked := fun cfg _ h =>
  ⟨readAddress_short cfg h,
    fun hfits hrejected => (readAddress_fits cfg h hfits).trans (if_neg (Bool.eq_false_iff.mp hrejected)),
    fun hfits haccepted => (readAddress_fits cfg h hfits).trans (if_pos haccepted)⟩

/-- An address read into a field register, by whichever of `ADDR1` to `ADDR4` it is, can only fail to fit (R7, R72, R75). -/
theorem readAddress_hardware_into (into : HwAddress → Fields → Fields) (h : s.cur.bit = 0) :
    ((readAddress hardware s).andThen fun a t => .ok () (t.setFields (into a t.fields))) =
      if s.len < s.cur.byte + 6 then .raised (.truncated s.cur.byte) s
      else .ok () ((s.setCur (Cursor.atByte (s.cur.byte + 6))).setFields (into (s.buf.bytes s.cur.byte 6) s.fields)) := by
  by_cases hshort : s.len < s.cur.byte + 6
  · rw [readAddress_short hardware h hshort, if_pos hshort]; rfl
  · rw [readAddress_fits hardware h (Nat.not_lt.mp hshort), if_neg hshort]; rfl

/-- Duration/ID in its register (R71). -/
def withDuration (s : State) : State :=
  (s.setCur (Cursor.atByte (s.cur.byte + 2))).setFields { s.fields with durationId := s.buf.read16 s.cur.byte }

/-- Duration/ID and Address1 in their registers (R71, R72). -/
def withAddr1 (s : State) : State :=
  (s.setCur (Cursor.atByte (s.cur.byte + 2 + 6))).setFields
    { s.fields with durationId := s.buf.read16 s.cur.byte, addr1 := s.buf.bytes (s.cur.byte + 2) 6 }

/-- Duration/ID, Address1 and Address2 in their registers (R71, R72). -/
def withAddr2 (s : State) : State :=
  (s.setCur (Cursor.atByte (s.cur.byte + 2 + 6 + 6))).setFields
    { s.fields with
      durationId := s.buf.read16 s.cur.byte
      addr1 := s.buf.bytes (s.cur.byte + 2) 6
      addr2 := s.buf.bytes (s.cur.byte + 2 + 6) 6 }

/-- The fixed fields on an aligned cursor: `Truncated` at the first that does not fit, with those before it in their registers
(R91, R105). -/
theorem readAddresses_hardware (h : s.cur.bit = 0) :
    readAddresses hardware s =
      if s.len < s.cur.byte + 2 then .raised (.truncated s.cur.byte) s
      else if s.len < s.cur.byte + 2 + 6 then .raised (.truncated (s.cur.byte + 2)) (withDuration s)
      else if s.len < s.cur.byte + 2 + 6 + 6 then .raised (.truncated (s.cur.byte + 2 + 6)) (withAddr1 s)
      else if s.len < s.cur.byte + 2 + 6 + 6 + 6 then .raised (.truncated (s.cur.byte + 2 + 6 + 6)) (withAddr2 s)
      else .ok () (withAddresses s) := by
  unfold readAddresses readAddr1 readAddr2 readAddr3
  rw [readDuration_aligned h, Res.andThen_ite,
    readAddress_hardware_into (fun a f => { f with addr1 := a }) rfl, Res.andThen_ite,
    readAddress_hardware_into (fun a f => { f with addr2 := a }) rfl, Res.andThen_ite,
    readAddress_hardware_into (fun a f => { f with addr3 := a }) rfl]
  rfl

theorem exec_frameControlDecoded (hs : s.stage = .frameControlDecoded) :
    exec i s = settle .addressesDecoded (readAddresses hardware s) := by
  rw [exec_eq_transition, transition, hs]

/-- Settles O24: none of the four fields that begin at byte 2 ends after byte 22. -/
theorem addressesTransitionReadsTheFixedFields : Obligations.AddressesTransitionReadsTheFixedFields := by
  rintro i s ⟨hs, hcur⟩ hfits
  have hbyte : s.cur.byte = 2 := congrArg Cursor.byte hcur
  rw [exec_frameControlDecoded hs, readAddresses_hardware (congrArg Cursor.bit hcur), hbyte, if_neg (by omega),
    if_neg (by omega), if_neg (by omega), if_neg (by omega), settle_ok, withAddresses, hbyte]
  rfl

/-- Settles O25: the four fields begin at bytes 2, 4, 10 and 16, and the first whose end is not in the buffer raises. -/
theorem addressesTransitionTruncates : Obligations.AddressesTransitionTruncates := by
  rintro i ⟨_, _, fc, fields, roles, status, errOffset, buf, len, host⟩ ⟨rfl, rfl⟩ hshort
  rw [exec_frameControlDecoded rfl, readAddresses_hardware rfl]
  dsimp only [Nat.reduceAdd] at hshort ⊢
  by_cases hduration : len < 4
  · simp only [if_pos hduration, if_pos (show len < 10 by omega), if_pos (show len < 16 by omega)]
    rfl
  by_cases haddr1 : len < 10
  · simp only [if_neg hduration, if_pos haddr1, if_pos (show len < 16 by omega)]
    rfl
  by_cases haddr2 : len < 16
  · simp only [if_neg hduration, if_neg haddr1, if_pos haddr2]
    rfl
  · simp only [if_neg hduration, if_neg haddr1, if_neg haddr2, if_pos hshort]
    rfl

/-! Address4. -/

theorem exec_sequenceControlResolved (hs : s.stage = .sequenceControlResolved) :
    exec i s = settle .address4Resolved (readAddr4 hardware i.frameControl s) := by
  rw [exec_eq_transition, transition, hs]

/-- `P_A4` of a frame class is both DS flags of its second byte (R64, R74). -/
theorem pA4_frameControl (i : Instr) : pA4 i.frameControl = (i.flags.getLsbD 0 && i.flags.getLsbD 1) := rfl

/-- Settles O29: with both DS flags Address4 is present, and this hardware accepts every address that fits. -/
theorem address4IsReadWithBothDsFlags : Obligations.Address4IsReadWithBothDsFlags := by
  rintro i s b ⟨hs, hcur⟩ htoDs hfromDs
  obtain rfl : s.cur.byte = b := congrArg Cursor.byte hcur
  have hpresent : pA4 i.frameControl = true := by rw [pA4_frameControl, htoDs, hfromDs]; rfl
  rw [exec_sequenceControlResolved hs, readAddr4_present hardware _ (congrArg Cursor.bit hcur) hpresent]
  refine ⟨fun hfits => ?_, fun hshort => ?_⟩
  · rw [if_neg (Nat.not_lt.mpr hfits)]; rfl
  · rw [if_pos hshort]; rfl

/-- Settles O30: without both DS flags Address4 is absent, wherever the cursor is. -/
theorem address4AbsentReadsNothing : Obligations.Address4AbsentReadsNothing := by
  intro i s hs hclear
  have habsent : pA4 i.frameControl = false := by rw [pA4_frameControl, Bool.and_eq_false_iff]; exact hclear
  rw [exec_sequenceControlResolved hs, readAddr4_absent hardware _ s habsent]
  rfl

/-! The roles. -/

/-- Settles O17: each of the four rows is its numbers, and its masks have no bit in common. -/
theorem roleTableByDsFlags : Obligations.RoleTableByDsFlags := by
  intro fc
  unfold roleTable
  cases toDs fc <;> cases fromDs fc <;> decide

end Sys2Proof.Machine
end

section
/-! SUPPORT. The flags that no rule reads (R76, R84): two decoders that are past Frame Control and differ only in these flags and in
the buffer's first two bytes still do so after each transition. -/

namespace Sys2Proof.Machine

variable {α β : Type} {cfg : Config} {fc : FrameControl} {s t u v : State}

/-! Frame Control less the five flags. -/

/-- Frame Control with no flag but those that some rule reads: `to_ds`, `from_ds` and `order` (R74, R77, R82). -/
def readPart (fc : FrameControl) : FrameControl := { fc with flags := fc.flags &&& 0x83 }

theorem toDs_readPart (fc : FrameControl) : toDs (readPart fc) = toDs fc :=
  BitVec.getLsbD_and.trans (Bool.and_true _)

theorem fromDs_readPart (fc : FrameControl) : fromDs (readPart fc) = fromDs fc :=
  BitVec.getLsbD_and.trans (Bool.and_true _)

theorem order_readPart (fc : FrameControl) : order (readPart fc) = order fc :=
  BitVec.getLsbD_and.trans (Bool.and_true _)

theorem pA4_readPart (fc : FrameControl) : pA4 (readPart fc) = pA4 fc := by
  rw [pA4, toDs_readPart, fromDs_readPart, pA4]

theorem pHt_hardware_readPart (fc : FrameControl) : pHt hardware (readPart fc) = pHt hardware fc := by
  show htPresentDefault (readPart fc) = htPresentDefault fc
  rw [Classes.htPresentDefault_eq, order_readPart]
  rfl

theorem roleTable_readPart (fc : FrameControl) : roleTable (readPart fc) = roleTable fc := by
  rw [roleTable, toDs_readPart, fromDs_readPart, roleTable]

/-- Past `Start` no transition of this hardware reads the five flags (R76, R84). -/
theorem transition_readPart (fc : FrameControl) (h : s.stage ≠ .start) :
    transition hardware (readPart fc) s = transition hardware fc s := by
  unfold transition
  cases hs : s.stage
  case start => exact absurd hs h
  case sequenceControlResolved => simp only [readAddr4, pA4_readPart]
  case qosResolved => simp only [readHt, pHt_hardware_readPart]
  case integrityFieldRead => simp only [finish, roleTable_readPart]
  all_goals rfl

/-! Two decoders that differ in the five flags. -/

/-- `t` is `s` but for flags that no rule reads and for the buffer's first two bytes, and both are past Frame Control. -/
def SameButFlags (s t : State) : Prop :=
  ∃ fc buf, t = (s.setFc fc).setInput buf s.len ∧ readPart fc = readPart s.fc ∧ (∀ a, 2 ≤ a → buf.read a = s.buf.read a) ∧
    s.stage ≠ .start ∧ 16 ≤ s.bitPos

namespace SameButFlags

theorem stage_eq (h : SameButFlags s t) : t.stage = s.stage := by obtain ⟨_, _, rfl, -⟩ := h; rfl
theorem cur_eq (h : SameButFlags s t) : t.cur = s.cur := by obtain ⟨_, _, rfl, -⟩ := h; rfl
theorem len_eq (h : SameButFlags s t) : t.len = s.len := by obtain ⟨_, _, rfl, -⟩ := h; rfl
theorem fields_eq (h : SameButFlags s t) : t.fields = s.fields := by obtain ⟨_, _, rfl, -⟩ := h; rfl

theorem bitPos_eq (h : SameButFlags s t) : t.bitPos = s.bitPos := by rw [State.bitPos, h.cur_eq, State.bitPos]

theorem readPart_eq (h : SameButFlags s t) : readPart t.fc = readPart s.fc := by
  obtain ⟨_, _, rfl, hfc, -⟩ := h
  exact hfc

theorem stage_ne_start (h : SameButFlags s t) : s.stage ≠ .start := by
  obtain ⟨_, _, -, -, -, hstage, -⟩ := h
  exact hstage

theorem le_bitPos (h : SameButFlags s t) : 16 ≤ s.bitPos := by
  obtain ⟨_, _, -, -, -, -, hpos⟩ := h
  exact hpos

theorem read_eq (h : SameButFlags s t) {a : Nat} (ha : 2 ≤ a) : t.buf.read a = s.buf.read a := by
  obtain ⟨_, _, rfl, -, hbuf, -⟩ := h
  exact hbuf a ha

/-- Past Frame Control both buffers have the same bits. -/
theorem bits_eq (h : SameButFlags s t) (n : Nat) : t.buf.bits s.bitPos n = s.buf.bits s.bitPos n := by
  have hpos := h.le_bitPos
  induction n with
  | zero => rfl
  | succ n ih =>
    have hbit : t.buf.bit (s.bitPos + n) = s.buf.bit (s.bitPos + n) := by
      rw [Memory.bit, h.read_eq (by omega), Memory.bit]
    rw [Memory.bits, ih, hbit, Memory.bits]

theorem bytes_eq (h : SameButFlags s t) (ha : s.cur.bit = 0) (n : Nat) :
    t.buf.bytes s.cur.byte n = s.buf.bytes s.cur.byte n := by
  have hpos := State.bitPos_aligned ha ▸ h.le_bitPos
  exact congrArg Vector.ofFn (funext fun k => h.read_eq (by omega))

theorem setFields (h : SameButFlags s t) (f : Fields) : SameButFlags (s.setFields f) (t.setFields f) := by
  obtain ⟨fc, buf, rfl, hrest⟩ := h
  exact ⟨fc, buf, rfl, hrest⟩

/-- The cursor of both may move forward. -/
theorem setCur (h : SameButFlags s t) {c : Cursor} (hc : s.bitPos ≤ (s.setCur c).bitPos) :
    SameButFlags (s.setCur c) (t.setCur c) := by
  obtain ⟨fc, buf, rfl, hfc, hbuf, hstage, hpos⟩ := h
  exact ⟨fc, buf, rfl, hfc, hbuf, hstage, hpos.trans hc⟩

theorem setStage (h : SameButFlags s t) {g : Stage} (hg : g ≠ .start) : SameButFlags (s.setStage g) (t.setStage g) := by
  obtain ⟨fc, buf, rfl, hfc, hbuf, -, hpos⟩ := h
  exact ⟨fc, buf, rfl, hfc, hbuf, hg, hpos⟩

theorem setResult (h : SameButFlags s t) (x : Status) (off : Nat) :
    SameButFlags (s.setResult x off) (t.setResult x off) := by
  obtain ⟨fc, buf, rfl, hrest⟩ := h
  exact ⟨fc, buf, rfl, hrest⟩

theorem setRoles (h : SameButFlags s t) (r : Roles) : SameButFlags (s.setRoles r) (t.setRoles r) := by
  obtain ⟨fc, buf, rfl, hrest⟩ := h
  exact ⟨fc, buf, rfl, hrest⟩

theorem failureEntry (h : SameButFlags s t) (e : DecodeError) : SameButFlags (failureEntry e s) (failureEntry e t) :=
  (h.setResult _ _).setStage nofun

/-- They are the same state once the flags byte and the buffer are out of sight. -/
theorem withoutFlags_eq (h : SameButFlags s t) : Statements.withoutFlags s = Statements.withoutFlags t := by
  obtain ⟨_, _, rfl, hfc, -⟩ := h
  have hstate := congrArg (fun fc : FrameControl => (s.setFc { fc with flags := 0 }).setInput [] s.len) hfc.symm
  exact hstate

end SameButFlags

/-! The micro-operations do the same from both. -/

/-- Both operations end in the same way, with the same value or failure, in states that differ in the five flags. -/
inductive Res.Agree : Res α → Res α → Prop
  | ok (a : α) {s t : State} (h : SameButFlags s t) : Agree (.ok a s) (.ok a t)
  | raised (e : DecodeError) {s t : State} (h : SameButFlags s t) : Agree (.raised e s) (.raised e t)
  | fault (f : Fault) : Agree (.fault f) (.fault f)
  | refused (r : Refusal) : Agree (.refused r) (.refused r)

theorem Res.Agree.andThen {r r' : Res α} {k : α → State → Res β} (hr : r.Agree r')
    (hk : ∀ a {s t : State}, SameButFlags s t → (k a s).Agree (k a t)) : (r.andThen k).Agree (r'.andThen k) := by
  cases hr with
  | ok a h => exact hk a h
  | raised e h => exact .raised e h
  | fault f => exact .fault f
  | refused r => exact .refused r

theorem byteAlign_agree (h : SameButFlags s t) : (byteAlign s).Agree (byteAlign t) := by
  rw [byteAlign, byteAlign, h.cur_eq]
  split_ifs
  · exact .ok () h
  · exact .fault _

theorem takeBits_agree (n : Nat) (h : SameButFlags s t) : (takeBits n s).Agree (takeBits n t) := by
  rw [takeBits, takeBits, h.len_eq, h.bitPos_eq, h.cur_eq, h.bits_eq]
  split_ifs
  · exact .raised _ h
  · exact .ok _ (h.setCur (by rw [State.bitPos_setCur_ofBitPos]; exact Nat.le_add_right _ _))
  · exact .refused _

theorem takeBytes_agree (n : Nat) (h : SameButFlags s t) : (takeBytes n s).Agree (takeBytes n t) := by
  by_cases ha : s.cur.bit = 0
  · rw [takeBytes_aligned n ha, takeBytes_aligned n (h.cur_eq ▸ ha), h.len_eq, h.cur_eq, h.bytes_eq ha]
    split_ifs
    · exact .raised _ h
    · exact .ok _ (h.setCur (by simp [State.bitPos, ha]))
  · rw [takeBytes_misaligned n ha, takeBytes_misaligned n (h.cur_eq ▸ ha)]
    exact .fault _

/-- Writing a field register from the same value is the same for both. -/
theorem setFields_agree (h : SameButFlags s t) (f : Fields → Fields) :
    (Res.ok () (s.setFields (f s.fields))).Agree (.ok () (t.setFields (f t.fields))) :=
  h.fields_eq ▸ .ok () (h.setFields _)

theorem readU16_agree (h : SameButFlags s t) : (readU16 s).Agree (readU16 t) :=
  (byteAlign_agree h).andThen fun _ _ _ h => (takeBits_agree 16 h).andThen fun v _ _ h =>
    (byteAlign_agree h).andThen fun _ _ _ h => .ok v h

theorem readU32_agree (h : SameButFlags s t) : (readU32 s).Agree (readU32 t) :=
  (byteAlign_agree h).andThen fun _ _ _ h => (takeBits_agree 32 h).andThen fun v _ _ h =>
    (byteAlign_agree h).andThen fun _ _ _ h => .ok v h

theorem readAddress_agree (cfg : Config) (h : SameButFlags s t) : (readAddress cfg s).Agree (readAddress cfg t) := by
  rw [readAddress, readAddress, h.cur_eq]
  refine (takeBytes_agree 6 h).andThen fun a _ _ h => ?_
  split_ifs
  · exact .ok a h
  · exact .raised _ h

/-- An address read into a field register, by whichever of `ADDR1` to `ADDR4` it is (R72, R75). -/
theorem readAddress_into_agree (cfg : Config) (into : HwAddress → Fields → Fields) (h : SameButFlags s t) :
    ((readAddress cfg s).andThen fun a t => .ok () (t.setFields (into a t.fields))).Agree
      ((readAddress cfg t).andThen fun a t => .ok () (t.setFields (into a t.fields))) :=
  (readAddress_agree cfg h).andThen fun a _ _ h => setFields_agree h (into a)

theorem readDuration_agree (h : SameButFlags s t) : (readDuration s).Agree (readDuration t) :=
  (readU16_agree h).andThen fun v _ _ h => setFields_agree h fun f => { f with durationId := v }

theorem readAddresses_agree (cfg : Config) (h : SameButFlags s t) : (readAddresses cfg s).Agree (readAddresses cfg t) :=
  (readDuration_agree h).andThen fun _ _ _ h =>
  (readAddress_into_agree cfg (fun a f => { f with addr1 := a }) h).andThen fun _ _ _ h =>
  (readAddress_into_agree cfg (fun a f => { f with addr2 := a }) h).andThen fun _ _ _ h =>
  readAddress_into_agree cfg (fun a f => { f with addr3 := a }) h

theorem readSequence_agree (fc : FrameControl) (h : SameButFlags s t) : (readSequence fc s).Agree (readSequence fc t) := by
  unfold readSequence
  split_ifs
  · refine (byteAlign_agree h).andThen fun _ _ _ h => (takeBits_agree 4 h).andThen fun frag _ _ h => ?_
    rw [h.fields_eq]
    refine (takeBits_agree 12 (h.setFields _)).andThen fun seq _ _ h => ?_
    rw [h.fields_eq]
    exact (byteAlign_agree (h.setFields _)).andThen fun _ _ _ h => setFields_agree h fun f => { f with scValid := true }
  · exact setFields_agree h fun f => { f with scValid := false }

theorem readAddr4_agree (cfg : Config) (fc : FrameControl) (h : SameButFlags s t) :
    (readAddr4 cfg fc s).Agree (readAddr4 cfg fc t) := by
  unfold readAddr4
  split_ifs
  · exact readAddress_into_agree cfg (fun a f => { f with addr4 := a, addr4Valid := true }) h
  · exact setFields_agree h fun f => { f with addr4Valid := false }

theorem readQos_agree (fc : FrameControl) (h : SameButFlags s t) : (readQos fc s).Agree (readQos fc t) := by
  unfold readQos
  split_ifs
  · exact (readU16_agree h).andThen fun v _ _ h => setFields_agree h fun f => { f with qos := v, qosValid := true }
  · exact setFields_agree h fun f => { f with qosValid := false }

theorem readHt_agree (cfg : Config) (fc : FrameControl) (h : SameButFlags s t) :
    (readHt cfg fc s).Agree (readHt cfg fc t) := by
  unfold readHt
  split_ifs
  · exact (readU32_agree h).andThen fun v _ _ h => setFields_agree h fun f => { f with ht := v, htValid := true }
  · exact setFields_agree h fun f => { f with htValid := false }

theorem resolveBody_agree (h : SameButFlags s t) : (resolveBody s).Agree (resolveBody t) := by
  by_cases ha : s.cur.bit = 0
  · rw [resolveBody_aligned ha, resolveBody_aligned (h.cur_eq ▸ ha), h.len_eq, h.cur_eq, h.fields_eq]
    split_ifs with hshort
    · exact .raised _ (h.setFields _)
    · have hpos : s.bitPos ≤ (s.setCur (Cursor.atByte (s.len - 4))).bitPos := by
        simp only [State.bitPos, ha, State.setCur_cur, Cursor.atByte_byte, Cursor.atByte_bit]
        omega
      exact .ok () ((h.setCur hpos).setFields _)
  · rw [resolveBody_misaligned ha, resolveBody_misaligned (h.cur_eq ▸ ha)]
    exact .fault _

theorem readIntegrity_agree (h : SameButFlags s t) : (readIntegrity s).Agree (readIntegrity t) :=
  (readU32_agree h).andThen fun v _ _ h => setFields_agree h fun f => { f with fcs := v }

/-! Transitions and runs. -/

theorem settle_sameButFlags {g : Stage} {r r' : Res Unit} (hr : r.Agree r') (hs : settle g r = .next u)
    (ht : settle g r' = .next v) (hg : g ≠ .start) : SameButFlags u v := by
  cases hr with
  | ok _ h => cases hs; cases ht; exact h.setStage hg
  | raised e h => cases hs; cases ht; exact h.failureEntry e
  | fault _ => cases hs
  | refused _ => cases hs

/-- A transition for the same Frame Control keeps the two decoders alike. -/
theorem transition_sameButFlags (h : SameButFlags s t) (hs : transition cfg fc s = .next u)
    (ht : transition cfg fc t = .next v) : SameButFlags u v := by
  rw [transition, h.stage_eq] at ht
  cases hstage : s.stage <;> simp only [transition, hstage] at hs ht
  case idle | done | failed => cases hs; cases ht; exact h
  case start => exact absurd hstage h.stage_ne_start
  case frameControlDecoded => exact settle_sameButFlags (readAddresses_agree cfg h) hs ht nofun
  case addressesDecoded => exact settle_sameButFlags (readSequence_agree fc h) hs ht nofun
  case sequenceControlResolved => exact settle_sameButFlags (readAddr4_agree cfg fc h) hs ht nofun
  case address4Resolved => exact settle_sameButFlags (readQos_agree fc h) hs ht nofun
  case qosResolved => exact settle_sameButFlags (readHt_agree cfg fc h) hs ht nofun
  case htResolved => exact settle_sameButFlags (resolveBody_agree h) hs ht nofun
  case bodyResolved => exact settle_sameButFlags (readIntegrity_agree h) hs ht nofun
  case integrityFieldRead =>
    cases hs; cases ht
    exact ((h.setRoles _).setResult _ _).setStage nofun

theorem advanceWith_sameButFlags (h : SameButFlags s t) (hs : advanceWith hardware s = .next u)
    (ht : advanceWith hardware t = .next v) : SameButFlags u v := by
  have hstart : t.stage ≠ .start := h.stage_eq ▸ h.stage_ne_start
  rw [advanceWith_of_ne_start h.stage_ne_start, ← transition_readPart _ h.stage_ne_start] at hs
  rw [advanceWith_of_ne_start hstart, ← transition_readPart _ hstart, h.readPart_eq] at ht
  exact transition_sameButFlags h hs ht

/-- Transitions that end in a state begin with one that does. -/
theorem transitions_succ_inv {n : Nat} (h : transitions cfg (n + 1) s = .next u) :
    ∃ t, advanceWith cfg s = .next t ∧ transitions cfg n t = .next u := by
  rw [transitions] at h
  cases ha : advanceWith cfg s with
  | next t => rw [ha] at h; exact ⟨t, rfl, h⟩
  | fault f => rw [ha] at h; cases h
  | refused r => rw [ha] at h; cases h

theorem transitions_sameButFlags {n : Nat} (h : SameButFlags s t) (hs : transitions hardware n s = .next u)
    (ht : transitions hardware n t = .next v) : SameButFlags u v := by
  induction n generalizing s t with
  | zero => cases hs; cases ht; exact h
  | succ n ih =>
    obtain ⟨s', hs', hs⟩ := transitions_succ_inv hs
    obtain ⟨t', ht', ht⟩ := transitions_succ_inv ht
    exact ih (advanceWith_sameButFlags h hs' ht') hs ht

/-! The transition of `Start`, and the whole transaction. -/

/-- From `Start`, when Frame Control fits, the class it selects makes its transition with the cursor past it (R62). -/
theorem advanceWith_start_fits (hs : s.stage = .start) (ha : s.cur.bit = 0) (hfits : s.cur.byte + 2 ≤ s.len) :
    advanceWith cfg s = transition cfg (FrameControl.ofBytes (s.buf.read s.cur.byte) (s.buf.read (s.cur.byte + 1)))
      (s.setCur (Cursor.atByte (s.cur.byte + 2))) := by
  have hadvance : advanceWith cfg s = fetchAndRun (execWith cfg) s := if_pos hs
  rw [hadvance, fetchAndRun, readFrameControl_aligned ha, if_neg (Nat.not_lt.mpr hfits)]
  dsimp only
  rw [execWith, fetchedInstr_read16, frameControl_decodeFrameControl]

/-- The transition after a request for a frame of two bytes or more: Frame Control is written, and its version judged (R62, R63). -/
theorem advanceWith_acceptRequest (fc0 fc1 : Byte) (rest : List Byte) (s : State) :
    advanceWith cfg (acceptRequest (fc0 :: fc1 :: rest) s) = settle .frameControlDecoded
      (writeFrameControl (FrameControl.ofBytes fc0 fc1)
        ((acceptRequest (fc0 :: fc1 :: rest) s).setCur (Cursor.atByte 2))) := by
  rw [advanceWith_start_fits rfl rfl (by simp), acceptRequest_buf, Memory.read_ofBytes, Memory.read_ofBytes]
  rfl

/-- After it, the two decoders differ in the five flags when the two flags bytes do. -/
theorem acceptRequest_sameButFlags {fc0 f g : Byte} {rest : List Byte} (hmask : f &&& 0x83 = g &&& 0x83)
    (hs : advanceWith cfg (acceptRequest (fc0 :: f :: rest) s) = .next u)
    (ht : advanceWith cfg (acceptRequest (fc0 :: g :: rest) s) = .next v) : SameButFlags u v := by
  have hfc : readPart (FrameControl.ofBytes fc0 g) = readPart (FrameControl.ofBytes fc0 f) :=
    congrArg (fun flags => { FrameControl.ofBytes fc0 0 with flags := flags }) hmask.symm
  have hbuf (a : Nat) (ha : 2 ≤ a) :
      (Memory.ofBytes (fc0 :: g :: rest)).read a = (Memory.ofBytes (fc0 :: f :: rest)).read a := by
    obtain ⟨k, rfl⟩ := Nat.exists_eq_add_of_le' ha
    rw [Memory.read_ofBytes, Memory.read_ofBytes]
    rfl
  rw [advanceWith_acceptRequest, writeFrameControl] at hs ht
  have hversion : (FrameControl.ofBytes fc0 g).version = (FrameControl.ofBytes fc0 f).version := rfl
  rw [hversion] at ht
  split_ifs at hs ht <;> cases hs <;> cases ht <;> exact ⟨_, _, rfl, hfc, hbuf, nofun, Nat.le_refl 16⟩

/-- On this hardware the run on one request is the nine transitions after it (R102). -/
theorem runs_iff_transitions (hw : s.stage.waiting = true) {frame : List Byte} :
    Statements.runs s frame t ↔ transitions hardware 9 (acceptRequest frame (s.setHost [])) = .next t := by
  rw [Statements.runs, ← coreWith_hardware_run, coreWith_run_request hardware frame hw, transaction_of_fits rfl]
  rfl

/-- Settles O60: after the transition of `Start` the two runs differ in the five flags, and no later transition reads them. -/
theorem fiveFlagsAffectNothing : Obligations.FiveFlagsAffectNothing := by
  intro s fc0 f g rest hw hmask
  obtain ⟨t, ht, -⟩ := runs_cases hw (fc0 :: f :: rest)
  obtain ⟨u, hu, -⟩ := runs_cases hw (fc0 :: g :: rest)
  refine ⟨t, u, ht, hu, SameButFlags.withoutFlags_eq ?_⟩
  obtain ⟨t', hstart, hrest⟩ := transitions_succ_inv ((runs_iff_transitions hw).mp ht)
  obtain ⟨u', hstart', hrest'⟩ := transitions_succ_inv ((runs_iff_transitions hw).mp hu)
  exact transitions_sameButFlags (acceptRequest_sameButFlags hmask hstart hstart') hrest hrest'

end Sys2Proof.Machine
end

section
/-! SUPPORT. Sequence Control, QoS Control and HT Control (43_seq_qos_ht.md): the classes that have them (R78, R80, R82), and what
their transitions read, or leave as it was (R79, R81, R83). -/

namespace Sys2Proof.Classes

open Machine

variable {i : Instr} {flags : Byte}

/-! The classes of each list are version-0 classes, and the fields that they have. -/

/-- A list that picks version-0 classes by their codes holds version-0 classes only. -/
theorem filter_codes_subset_version0 (q : BitVec 2 × BitVec 4 → Bool) (flags : Byte) :
    (version0Codes.filter q).map (ofCodes flags) ⊆ version0 flags :=
  List.map_subset _ (List.filter_subset_self _)

theorem withSequence_subset_version0 (flags : Byte) : withSequence flags ⊆ version0 flags := List.subset_append_left _ _

theorem withoutSequence_subset_version0 (flags : Byte) : withoutSequence flags ⊆ version0 flags := List.subset_append_right _ _

theorem withQos_subset_version0 (flags : Byte) : Classes.withQos flags ⊆ version0 flags :=
  filter_codes_subset_version0 (fun c => pQos { version := 0, type := c.1, subtype := c.2, flags := 0 }) flags

theorem withHtOnOrder_subset_version0 (flags : Byte) : withHtOnOrder flags ⊆ version0 flags :=
  List.append_subset.mpr ⟨withQos_subset_version0 flags,
    filter_codes_subset_version0 (fun c => isAction { version := 0, type := c.1, subtype := c.2, flags := 0 }) flags⟩

/-- No class is both with and without Sequence Control (R78). -/
theorem not_mem_withSequence (hi : i ∈ withoutSequence flags) : i ∉ Classes.withSequence flags :=
  fun h => List.disjoint_of_nodup_append (version0_nodup flags) h hi

/-- HT Control is in the classes of `withHtOnOrder` when their `order` flag is set (R82). -/
theorem pHt_hardware_iff (hi : i ∈ version0 flags) :
    pHt hardware i.frameControl = true ↔ flags.getLsbD 7 = true ∧ i ∈ withHtOnOrder flags := by
  obtain ⟨-, hflags⟩ := mem_version0_iff.mp hi
  have hht : pHt hardware i.frameControl = (order i.frameControl && (pQos i.frameControl || isAction i.frameControl)) :=
    htPresentDefault_eq i.frameControl
  rw [hht, Bool.and_eq_true_iff, ← mem_withHtOnOrder_iff hi, order, hflags]

end Sys2Proof.Classes

namespace Sys2Proof.Machine

variable {i : Instr} {s : State} {flags : Byte}

/-- Settles O16: each predicate is the membership in its rule's list, but Address4's, which is the two flags. -/
theorem presencePredicatesByClass : Obligations.PresencePredicatesByClass := by
  intro flags i hi
  obtain ⟨-, hflags⟩ := Classes.mem_version0_iff.mp hi
  have haddr4 : pA4 i.frameControl = (flags.getLsbD 0 && flags.getLsbD 1) := hflags ▸ pA4_frameControl i
  exact ⟨(Classes.mem_withSequence_iff hi).symm, haddr4, (Classes.mem_withQos_iff hi).symm, Classes.pHt_hardware_iff hi⟩

/-! Sequence Control. -/

/-- The fragment number is the high half of the first byte (R47). -/
theorem Memory.read16_high4 (m : Memory) (b : Nat) : (m.read16 b).extractLsb' 12 4 = (m.read b).extractLsb' 4 4 :=
  BitVec.extractLsb'_append_eq_of_le (by decide)

/-- The sequence number is the low half of the first byte and all of the second (R47). -/
theorem Memory.read16_low12 (m : Memory) (b : Nat) :
    (m.read16 b).extractLsb' 0 12 = (m.read b).extractLsb' 0 4 ++ m.read (b + 1) := by
  apply BitVec.eq_of_getLsbD_eq
  intro i hi
  rw [Memory.read16, BitVec.getLsbD_extractLsb', BitVec.getLsbD_append, BitVec.getLsbD_append, BitVec.getLsbD_extractLsb']
  simp only [Nat.zero_add, hi, decide_true, Bool.true_and]
  split_ifs with hlow
  · rfl
  · rw [decide_eq_true (show i - 8 < 4 by omega), Bool.true_and]

theorem exec_addressesDecoded (hs : s.stage = .addressesDecoded) :
    exec i s = settle .sequenceControlResolved (readSequence i.frameControl s) := by
  rw [exec_eq_transition, transition, hs]

theorem pSc_of_mem_withSequence (hi : i ∈ Classes.withSequence flags) : pSc i.frameControl = true :=
  (Classes.mem_withSequence_iff (Classes.withSequence_subset_version0 flags hi)).mp hi

theorem pSc_of_mem_withoutSequence (hi : i ∈ Classes.withoutSequence flags) : pSc i.frameControl = false := by
  rw [← Bool.not_eq_true, ← Classes.mem_withSequence_iff (Classes.withoutSequence_subset_version0 flags hi)]
  exact Classes.not_mem_withSequence hi

/-- Settles O26: both reads fit, and together they are the two bytes at the cursor. -/
theorem sequenceControlIsRead : Obligations.SequenceControlIsRead := by
  rintro flags s ⟨hs, hcur⟩ hfits i hi
  have hbyte : s.cur.byte = 22 := congrArg Cursor.byte hcur
  rw [exec_addressesDecoded hs, readSequence_aligned _ (congrArg Cursor.bit hcur) (pSc_of_mem_withSequence hi), hbyte,
    if_neg (by omega), if_neg (by omega), settle_ok, Memory.read16_high4, Memory.read16_low12]
  rfl

/-- Settles O27: with 23 bytes the second read fails, inside the byte where the first one ended; with fewer the first fails. -/
theorem sequenceControlTruncates : Obligations.SequenceControlTruncates := by
  rintro flags ⟨_, _, fc, fields, roles, status, errOffset, buf, len, host⟩ ⟨rfl, rfl⟩ hshort i hi
  rw [exec_addressesDecoded rfl, readSequence_aligned _ rfl (pSc_of_mem_withSequence hi), Memory.read16_high4]
  dsimp only [Nat.reduceAdd] at hshort ⊢
  by_cases hone : len = 23
  · rw [if_neg (show ¬ len < 23 by omega), if_pos hshort, if_pos hone, if_pos hone]
    rfl
  · rw [if_pos (show len < 23 by omega), if_neg hone, if_neg hone]
    rfl

/-- Settles O28: Sequence Control is absent, and the cursor stays. -/
theorem sequenceControlAbsentReadsNothing : Obligations.SequenceControlAbsentReadsNothing := by
  rintro flags s b ⟨hs, -⟩ i hi
  rw [exec_addressesDecoded hs, readSequence_absent _ s (pSc_of_mem_withoutSequence hi)]
  rfl

/-! QoS Control and HT Control: a field that is read whole or not at all. -/

/-- The end of a transition that reads one field: it fits and is in its register, or `Truncated` with nothing changed (R61). -/
theorem settle_field {g : Stage} {s t : State} {off n : Nat} :
    (n ≤ s.len → settle g (if s.len < n then .raised (.truncated off) s else .ok () t) = .next (t.setStage g)) ∧
    (s.len < n → settle g (if s.len < n then .raised (.truncated off) s else .ok () t) =
      .next (failureEntry (.truncated off) s)) :=
  ⟨fun hfits => by rw [if_neg (Nat.not_lt.mpr hfits), settle_ok], fun hshort => by rw [if_pos hshort, settle_raised]⟩

theorem exec_address4Resolved (hs : s.stage = .address4Resolved) :
    exec i s = settle .qosResolved (readQos i.frameControl s) := by
  rw [exec_eq_transition, transition, hs]

/-- Settles O31: QoS Control is present, two bytes at the cursor. -/
theorem qosControlIsRead : Obligations.QosControlIsRead := by
  rintro flags s b ⟨hs, hcur⟩ i hi
  obtain rfl : s.cur.byte = b := congrArg Cursor.byte hcur
  have hpresent := (Classes.mem_withQos_iff (Classes.withQos_subset_version0 flags hi)).mp hi
  rw [exec_address4Resolved hs, readQos_present _ (congrArg Cursor.bit hcur) hpresent]
  exact settle_field

/-- Settles O32: outside the list QoS Control is absent, wherever the cursor is. -/
theorem qosControlAbsentReadsNothing : Obligations.QosControlAbsentReadsNothing := by
  intro flags s hs i hi hother
  rw [Classes.mem_withQos_iff hi, Bool.not_eq_true] at hother
  rw [exec_address4Resolved hs, readQos_absent _ s hother]
  rfl

theorem exec_qosResolved (hs : s.stage = .qosResolved) :
    exec i s = settle .htResolved (readHt hardware i.frameControl s) := by
  rw [exec_eq_transition, transition, hs]

/-- Settles O33: HT Control is present, four bytes at the cursor. -/
theorem htControlIsReadOnOrder : Obligations.HtControlIsReadOnOrder := by
  rintro flags s b ⟨hs, hcur⟩ horder i hi
  obtain rfl : s.cur.byte = b := congrArg Cursor.byte hcur
  have hpresent := (Classes.pHt_hardware_iff (Classes.withHtOnOrder_subset_version0 flags hi)).mpr ⟨horder, hi⟩
  rw [exec_qosResolved hs, readHt_present hardware _ (congrArg Cursor.bit hcur) hpresent]
  exact settle_field

/-- Settles O34: without `order`, or outside the list, HT Control is absent, wherever the cursor is. -/
theorem htControlAbsentReadsNothing : Obligations.HtControlAbsentReadsNothing := by
  intro flags s hs i hi hother
  have habsent : pHt hardware i.frameControl = false := by
    rw [← Bool.not_eq_true, Classes.pHt_hardware_iff hi, not_and_or, Bool.not_eq_true]
    exact hother
  rw [exec_qosResolved hs, readHt_absent hardware _ s habsent]
  rfl

end Sys2Proof.Machine
end

section
/-! SUPPORT. The body and the integrity field (44_body_and_assembler.md, R85 to R87), and the FrameAssembler around them: what a
step does with a request or a class in progress (R88, R89), that an aligned decoder always answers (R114), and how many
transitions a transaction takes (R100, R102). -/

namespace Sys2Proof.Machine

variable {cfg : Config} {i : Instr} {s t u : State} {m n : Nat} {frame : List Byte}

/-! The body and the integrity field. -/

theorem exec_htResolved (hs : s.stage = .htResolved) : exec i s = settle .bodyResolved (resolveBody s) := by
  rw [exec_eq_transition, transition, hs]

/-- Settles O35: the body check passes from four bytes after the cursor on, and the cursor is left four bytes before the end. -/
theorem bodyIsWhatIsLeftButFour : Obligations.BodyIsWhatIsLeftButFour := by
  rintro i s h ⟨hs, hcur⟩
  obtain rfl : s.cur.byte = h := congrArg Cursor.byte hcur
  rw [exec_htResolved hs, resolveBody_aligned (congrArg Cursor.bit hcur)]
  refine ⟨fun hfits => ?_, fun hshort => ?_⟩
  · rw [if_neg (Nat.not_lt.mpr hfits), settle_ok]; rfl
  · rw [if_pos hshort, settle_raised]; rfl

theorem exec_bodyResolved (hs : s.stage = .bodyResolved) : exec i s = settle .integrityFieldRead (readIntegrity s) := by
  rw [exec_eq_transition, transition, hs]

/-- The last four bytes of a buffer, first byte most significant (R30). -/
theorem Memory.read32_last (buf : Memory) {len : Nat} (h : 4 ≤ len) :
    buf.read32 (len - 4) = buf.read (len - 4) ++ buf.read (len - 3) ++ buf.read (len - 2) ++ buf.read (len - 1) := by
  obtain ⟨k, rfl⟩ := Nat.exists_eq_add_of_le' h
  rfl

/-- Settles O36: four bytes before the end the integrity field fits, and it is what is left. -/
theorem integrityFieldIsTheLastFourBytes : Obligations.IntegrityFieldIsTheLastFourBytes := by
  rintro i s hlen ⟨hs, hcur⟩
  have hbyte : s.cur.byte = s.len - 4 := congrArg Cursor.byte hcur
  have hend : s.cur.byte + 4 = s.len := by omega
  rw [exec_bodyResolved hs, readIntegrity_fits (congrArg Cursor.bit hcur) hend.le, settle_ok, withIntegrity, hend, hbyte,
    Memory.read32_last s.buf hlen]
  rfl

/-! A step that is not in `Start`. -/

/-- Settles O6: the class in progress is the one whose Frame Control the registers hold. -/
theorem stepAfterStartRunsTheClassInProgress : Obligations.StepAfterStartRunsTheClassInProgress := by
  intro s i hw hs hr hfc
  have hclass : instrInProgress s.sampled = i :=
    (congrArg decodeFrameControl hfc).trans (decodeFrameControl_frameControl i)
  rw [step_of_busy hw hr, advance_of_ne_start (s := s.sampled) hs, hclass]
  rfl

/-- This hardware accepts every request of a waiting decoder (R7, R89). -/
theorem step_request_of_waiting (hw : s.stage.waiting = true) (hreq : s.hostNow = .request frame) :
    step s = .next (acceptRequest frame s.sampled) := by
  obtain ⟨hr, -⟩ | ⟨f, hf, -, he⟩ | ⟨hq, -⟩ | ⟨-, hb, -⟩ := step_cases s
  · rw [hreq] at hr; cases hr
  · rw [hreq] at hf; cases hf; exact he
  · rw [hreq] at hq; cases hq
  · rw [hw] at hb; cases hb

/-- Settles O45: the request is accepted, and the presented frame reads back as its bytes. -/
theorem acceptedRequestStartsAfresh : Obligations.AcceptedRequestStartsAfresh := fun _ frame hs hreq =>
  ⟨_, step_request_of_waiting (Stage.waiting_iff.mpr hs) hreq, rfl, fun a ha =>
    (Memory.read_ofBytes frame a).trans (List.getD_eq_getElem frame Memory.unlisted ha)⟩

/-! On a byte boundary every transition answers a next state (R114). -/

theorem settle_answers {g : Stage} {r : Res Unit} {f : Option DecodeError} (h : r.Yields f () t) :
    ∃ u, settle g r = .next u := by
  cases f with
  | none => exact ⟨_, settle_ends h⟩
  | some e =>
    obtain ⟨v, hv⟩ := settle_ends (g := g) h
    exact ⟨_, hv⟩

/-- On a byte boundary each read ends with a value or raises: no transition faults or is refused, whatever the parameters. -/
theorem transition_answers (cfg : Config) (fc : FrameControl) (ha : s.cur.bit = 0) :
    ∃ t, transition cfg fc s = .next t := by
  unfold transition
  cases s.stage
  case idle | done | failed => exact ⟨s, rfl⟩
  case start => exact settle_answers (writeFrameControl_yields fc s)
  case frameControlDecoded => exact settle_answers (readAddresses_yields cfg ha)
  case addressesDecoded => exact settle_answers (readSequence_yields fc ha)
  case sequenceControlResolved => exact settle_answers (readAddr4_yields cfg fc ha)
  case address4Resolved => exact settle_answers (readQos_yields fc ha)
  case qosResolved => exact settle_answers (readHt_yields cfg fc ha)
  case htResolved => exact settle_answers (resolveBody_yields ha)
  case bodyResolved => exact settle_answers (readIntegrity_aligned ha ▸ Res.yields_ite)
  case integrityFieldRead => exact ⟨finish fc s, rfl⟩

theorem exec_answers (i : Instr) (ha : s.cur.bit = 0) : ∃ t, exec i s = .next t := by
  rw [exec_eq_transition]
  exact transition_answers hardware i.frameControl ha

theorem advance_answers (ha : s.cur.bit = 0) : ∃ t, advance s = .next t := by
  by_cases hs : s.stage = .start
  · rw [advance_start hs ha]
    split_ifs
    · exact ⟨_, rfl⟩
    · exact exec_answers _ rfl
  · rw [advance_of_ne_start hs]
    exact exec_answers _ ha

/-- Settles O52: the invariant keeps the cursor of a busy decoder on a byte boundary. -/
theorem everyStepFromTheInvariantAnswers : Obligations.EveryStepFromTheInvariantAnswers := by
  intro s hinv
  obtain ⟨-, he⟩ | ⟨_, -, -, he⟩ | ⟨-, -, he⟩ | ⟨-, hbusy, he⟩ := step_cases s
  · exact ⟨_, he⟩
  · exact ⟨_, he⟩
  · exact ⟨_, he⟩
  · have hstage : s.stage ≠ .failed := fun hs => by rw [hs] at hbusy; cases hbusy
    rw [he]
    exact advance_answers (s := s.sampled) (hinv.cursor.aligned hstage)

/-! The run on one request. -/

/-- Settles O53: the run is the nine transitions of the accepted request, which decode the frame. -/
theorem runEndsWithTheDecodedResult : Obligations.RunEndsWithTheDecodedResult := by
  intro s frame hw
  obtain ⟨t, ht, hresult⟩ := transitions_nine_decode hardware frame (s.setHost [])
  exact ⟨t, (runs_iff_transitions hw).mpr ht, hresult⟩

/-- After the request's step the run is the transitions of the accepted request, however many (R88, R89). -/
theorem core_run_request_eq_transitions (hw : s.stage.waiting = true) (frame : List Byte) (n : Nat) :
    Sys2Proof.core.run (1 + n) (s.setHost [.request frame]) = transitions hardware n (acceptRequest frame State.reset) := by
  rw [core_run_request hw, ← coreWith_hardware_run, coreWith_run_eq_transitions hardware n rfl]

/-- `n` transitions lead from `s` to `u`, and none of the states before `u` shows `DONE`. -/
def BusyUntil (cfg : Config) (n : Nat) (s u : State) : Prop :=
  transitions cfg n s = .next u ∧ ∀ k, k < n → ∃ v, transitions cfg k s = .next v ∧ v.done = false

theorem BusyUntil.refl (cfg : Config) (s : State) : BusyUntil cfg 0 s s := ⟨rfl, nofun⟩

theorem BusyUntil.succ (hs : s.done = false) (h : advanceWith cfg s = .next t) (ht : BusyUntil cfg n t u) :
    BusyUntil cfg (n + 1) s u := by
  obtain ⟨hend, hbusy⟩ := ht
  refine ⟨(transitions_succ_of_next h).trans hend, fun k hk => ?_⟩
  cases k with
  | zero => exact ⟨s, rfl, hs⟩
  | succ k => rw [transitions_succ_of_next h]; exact hbusy k (Nat.lt_of_succ_lt_succ hk)

/-- With `m` transitions behind it the decoder is busy until it is in `Done` after the ninth, or in `Failed` after the seventh at
the latest (R102). -/
def OnTime (cfg : Config) (m : Nat) (s : State) : Prop :=
  ∃ n u, BusyUntil cfg n s u ∧ ((u.stage = .done ∧ m + n = 9) ∨ (u.stage = .failed ∧ 1 ≤ m + n ∧ m + n ≤ 7))

theorem onTime_of_done (hs : s.stage = .done) : OnTime cfg 9 s := ⟨0, s, .refl cfg s, .inl ⟨hs, rfl⟩⟩

theorem onTime_of_failed (hs : s.stage = .failed) (hpos : 1 ≤ m) (hle : m ≤ 7) : OnTime cfg m s :=
  ⟨0, s, .refl cfg s, .inr ⟨hs, hpos, hle⟩⟩

theorem OnTime.of_next (hs : s.done = false) (h : advanceWith cfg s = .next t) (ht : OnTime cfg (m + 1) t) :
    OnTime cfg m s := by
  obtain ⟨n, u, hu, hcount⟩ := ht
  refine ⟨n + 1, u, hu.succ hs h, ?_⟩
  rwa [Nat.add_right_comm, Nat.add_assoc] at hcount

/-- One of the first seven transitions may fail; when it does not, the rest decide (R90 to R96, R99). -/
theorem Ends.onTime {f : Option DecodeError} (h : Ends (advanceWith cfg s) f t) (hs : s.done = false) (hm : m < 7)
    (hrest : f = none → OnTime cfg (m + 1) t) : OnTime cfg m s := by
  cases f with
  | none => exact .of_next hs h (hrest rfl)
  | some e =>
    obtain ⟨v, hv⟩ := h
    exact .of_next hs hv (onTime_of_failed rfl (Nat.le_add_left 1 m) hm)

/-- Seven transitions from `Start` may fail, and where the body check has passed the last two cannot (R87, R98, R102). -/
theorem onTime_of_start (hs : s.stage = .start) (hc : s.cur = Cursor.atByte 0) : OnTime cfg 0 s := by
  refine (advanceWith_start_ends hs hc).onTime (by rw [State.done, hs]) (by decide) fun _ => ?_
  refine (advanceWith_frameControlDecoded_ends rfl rfl).onTime rfl (by decide) fun _ => ?_
  refine (advanceWith_addressesDecoded_ends rfl rfl).onTime rfl (by decide) fun _ => ?_
  refine (advanceWith_sequenceControlResolved_ends rfl rfl).onTime rfl (by decide) fun _ => ?_
  refine (advanceWith_address4Resolved_ends rfl rfl).onTime rfl (by decide) fun _ => ?_
  refine (advanceWith_qosResolved_ends rfl rfl).onTime rfl (by decide) fun _ => ?_
  refine (advanceWith_htResolved_ends rfl rfl).onTime rfl (by decide) fun hfit => ?_
  have hfit' : _ + 4 ≤ s.len := Nat.not_lt.mp (of_decide_eq_false (failWhen_eq_none hfit))
  have hintegrity : s.len - 4 + 4 ≤ s.len := (Nat.sub_add_cancel (le_of_add_le_right hfit')).le
  exact .of_next rfl (advanceWith_bodyResolved rfl rfl hintegrity) <|
    .of_next rfl (advanceWith_integrityFieldRead rfl) (onTime_of_done rfl)

/-- Settles O55: the accepted request is in `Start` at `(0, 0)`, and from there the transitions end on time. -/
theorem nineTransitionsOrAtMostSeven : Obligations.NineTransitionsOrAtMostSeven := by
  intro s frame hw
  obtain ⟨n, u, ⟨hend, hbusy⟩, hcount⟩ :=
    onTime_of_start (cfg := hardware) (s := acceptRequest frame State.reset) rfl rfl
  rw [Nat.zero_add] at hcount
  refine ⟨n, u, (core_run_request_eq_transitions hw frame n).trans hend, hcount, fun k hk => ?_⟩
  rw [core_run_request_eq_transitions hw]
  exact hbusy k hk

end Sys2Proof.Machine
end

section
/-! SUPPORT. The exceptions (60_exceptions.md): which failures a transition can raise and what it then leaves (R105 to R110), what
the host sees of a transaction's end (R111), and where a buffer that ends too soon fails (R105, R109). -/

namespace Sys2Proof.Machine

variable {α β : Type} {cfg : Config} {fc : FrameControl} {s t u : State} {frame : List Byte}

/-! The failures that the micro-operations raise. -/

/-- The failures that the rules raise, each with the state in which the raise leaves the decoder: `Truncated` at the byte that the
cursor stays in, `UnsupportedVersion` at 0, or `InvalidAddress` for an address that `ADDR_VALID` rejects (R105 to R107). -/
inductive Raisable (cfg : Config) : DecodeError → State → Prop
  | truncated (t : State) : Raisable cfg (.truncated t.cur.byte) t
  | unsupportedVersion (t : State) : Raisable cfg (.unsupportedVersion 0) t
  | invalidAddress {a : HwAddress} (off : Nat) (t : State) (h : ¬ cfg.addrValid a = true) :
    Raisable cfg (.invalidAddress off) t

/-- When the operation raises, it is such a failure. -/
def Res.RaisesOnly (cfg : Config) : Res α → Prop
  | .ok _ _ => True
  | .raised e t => Raisable cfg e t
  | .fault _ => True
  | .refused _ => True

theorem Res.RaisesOnly.andThen {r : Res α} {k : α → State → Res β} (hr : r.RaisesOnly cfg)
    (hk : ∀ a t, (k a t).RaisesOnly cfg) : (r.andThen k).RaisesOnly cfg := by
  cases r with
  | ok a t => exact hk a t
  | raised _ _ => exact hr
  | fault _ => exact hr
  | refused _ => exact hr

/-- An operation that puts a value into registers raises only what reading the value does. -/
theorem Res.RaisesOnly.andThen_ok {r : Res α} {b : α → State → β} {w : α → State → State} (hr : r.RaisesOnly cfg) :
    (r.andThen fun a t => .ok (b a t) (w a t)).RaisesOnly cfg :=
  hr.andThen fun _ _ => trivial

/-- A read that leaves the state and records the cursor's byte when it raises. -/
theorem Res.RaisesOnly.of_read {r : Res α} (h : ∀ {t e}, r = .raised e t → t = s ∧ e = .truncated s.cur.byte) :
    r.RaisesOnly cfg := by
  cases r with
  | raised e t =>
    obtain ⟨rfl, rfl⟩ := h rfl
    exact .truncated t
  | ok _ _ => trivial
  | fault _ => trivial
  | refused _ => trivial

theorem byteAlign_raisesOnly (s : State) : (byteAlign s).RaisesOnly cfg :=
  .of_read (s := s) fun h => absurd h (byteAlign_ne_raised s _ _)

theorem readAddress_raisesOnly (cfg : Config) (s : State) : (readAddress cfg s).RaisesOnly cfg :=
  (Res.RaisesOnly.of_read takeBytes_raised).andThen fun a t => by
    split_ifs with hvalid
    · trivial
    · exact .invalidAddress _ t hvalid

/-- An address read into a field register, by whichever of `ADDR1` to `ADDR4` it is (R72, R75). -/
theorem readAddress_into_raisesOnly (cfg : Config) (into : HwAddress → Fields → Fields) (s : State) :
    ((readAddress cfg s).andThen fun a t => .ok () (t.setFields (into a t.fields))).RaisesOnly cfg :=
  (readAddress_raisesOnly cfg s).andThen_ok

theorem readDuration_raisesOnly (s : State) : (readDuration s).RaisesOnly cfg :=
  (Res.RaisesOnly.of_read readU16_raised).andThen_ok

theorem readAddresses_raisesOnly (cfg : Config) (s : State) : (readAddresses cfg s).RaisesOnly cfg :=
  (readDuration_raisesOnly s).andThen fun _ t =>
  (readAddress_into_raisesOnly cfg (fun a f => { f with addr1 := a }) t).andThen fun _ t =>
  (readAddress_into_raisesOnly cfg (fun a f => { f with addr2 := a }) t).andThen fun _ t =>
  readAddress_into_raisesOnly cfg (fun a f => { f with addr3 := a }) t

theorem readSequence_raisesOnly (fc : FrameControl) (s : State) : (readSequence fc s).RaisesOnly cfg := by
  unfold readSequence
  split_ifs
  · exact (byteAlign_raisesOnly s).andThen fun _ _ => (Res.RaisesOnly.of_read takeBits_raised).andThen fun _ _ =>
      (Res.RaisesOnly.of_read takeBits_raised).andThen fun _ _ => (byteAlign_raisesOnly _).andThen_ok
  · trivial

theorem readAddr4_raisesOnly (cfg : Config) (fc : FrameControl) (s : State) : (readAddr4 cfg fc s).RaisesOnly cfg := by
  unfold readAddr4
  split_ifs
  · exact readAddress_into_raisesOnly cfg (fun a f => { f with addr4 := a, addr4Valid := true }) s
  · trivial

theorem readQos_raisesOnly (fc : FrameControl) (s : State) : (readQos fc s).RaisesOnly cfg := by
  unfold readQos
  split_ifs
  · exact (Res.RaisesOnly.of_read readU16_raised).andThen_ok
  · trivial

theorem readHt_raisesOnly (cfg : Config) (fc : FrameControl) (s : State) : (readHt cfg fc s).RaisesOnly cfg := by
  unfold readHt
  split_ifs
  · exact (Res.RaisesOnly.of_read readU32_raised).andThen_ok
  · trivial

theorem resolveBodyLength_raisesOnly (s : State) : (resolveBodyLength s).RaisesOnly cfg :=
  (byteAlign_raisesOnly s).andThen fun _ t => by
    dsimp only
    split_ifs
    · exact .truncated (t.setFields { t.fields with hdrLen := t.cur.byte })
    · trivial

theorem resolveBody_raisesOnly (s : State) : (resolveBody s).RaisesOnly cfg :=
  (resolveBodyLength_raisesOnly s).andThen fun _ _ => .of_read skipBytes_raised

theorem readIntegrity_raisesOnly (s : State) : (readIntegrity s).RaisesOnly cfg :=
  (Res.RaisesOnly.of_read readU32_raised).andThen_ok

/-! How a transition and a step may change the result. -/

/-- `t` is a failure that some rule raises, or it shows no failure that `s` does not show. -/
def FailsOnlyByRule (cfg : Config) (s t : State) : Prop :=
  (∃ e u, Raisable cfg e u ∧ t = failureEntry e u) ∨
  ((t.status = s.status ∨ t.status = .ok) ∧ (t.stage = .failed → s.stage = .failed))

theorem FailsOnlyByRule.of_same (hstatus : t.status = s.status) (hstage : t.stage = s.stage) : FailsOnlyByRule cfg s t :=
  .inr ⟨.inl hstatus, hstage.symm.trans⟩

theorem FailsOnlyByRule.of_ok (hstatus : t.status = .ok) (hstage : t.stage ≠ .failed) : FailsOnlyByRule cfg s t :=
  .inr ⟨.inr hstatus, fun h => absurd h hstage⟩

/-- A transition whose action only reads enters `Failed` only when the action raises (R99, R110). -/
theorem settle_failsOnlyByRule {g : Stage} {r : Res Unit} (h : settle g r = .next t) (hread : r.OnlyReads s)
    (hraise : r.RaisesOnly cfg) (hg : g ≠ .failed) : FailsOnlyByRule cfg s t := by
  cases r with
  | ok _ u =>
    cases h
    obtain ⟨_, _, rfl, -⟩ := hread
    exact .inr ⟨.inl rfl, fun hs => absurd hs hg⟩
  | raised e u => cases h; exact .inl ⟨e, u, hraise, rfl⟩
  | fault _ => cases h
  | refused _ => cases h

/-- A transition fails only by a rule, whatever the parameters (R105 to R108). -/
theorem transition_failsOnlyByRule (h : transition cfg fc s = .next t) : FailsOnlyByRule cfg s t := by
  cases hs : s.stage <;> simp only [transition, hs] at h
  case idle | done | failed => cases h; exact .of_same rfl rfl
  case start =>
    unfold writeFrameControl at h
    split_ifs at h <;> cases h
    · exact .inr ⟨.inl rfl, nofun⟩
    · exact .inl ⟨_, _, .unsupportedVersion _, rfl⟩
  case frameControlDecoded =>
    exact settle_failsOnlyByRule h (readAddresses_onlyReads cfg s) (readAddresses_raisesOnly cfg s) nofun
  case addressesDecoded =>
    exact settle_failsOnlyByRule h (readSequence_onlyReads fc s) (readSequence_raisesOnly fc s) nofun
  case sequenceControlResolved =>
    exact settle_failsOnlyByRule h (readAddr4_onlyReads cfg fc s) (readAddr4_raisesOnly cfg fc s) nofun
  case address4Resolved => exact settle_failsOnlyByRule h (readQos_onlyReads fc s) (readQos_raisesOnly fc s) nofun
  case qosResolved => exact settle_failsOnlyByRule h (readHt_onlyReads cfg fc s) (readHt_raisesOnly cfg fc s) nofun
  case htResolved => exact settle_failsOnlyByRule h (resolveBody_onlyReads s) (resolveBody_raisesOnly s) nofun
  case bodyResolved => exact settle_failsOnlyByRule h (readIntegrity_onlyReads s) (readIntegrity_raisesOnly s) nofun
  case integrityFieldRead => cases h; exact .of_ok rfl nofun

theorem exec_failsOnlyByRule {i : Instr} (h : exec i s = .next t) : FailsOnlyByRule hardware s t :=
  transition_failsOnlyByRule ((exec_eq_transition i s).symm.trans h)

theorem advance_start_misaligned (hs : s.stage = .start) (ha : s.cur.bit ≠ 0) : advance s = .fault .misaligned := by
  have hread : readFrameControl s = .fault .misaligned := readU16_misaligned ha
  rw [advance, advanceBy, if_pos hs, fetchAndRun, hread]

theorem advance_failsOnlyByRule (h : advance s = .next t) : FailsOnlyByRule hardware s t := by
  by_cases hs : s.stage = .start
  · by_cases ha : s.cur.bit = 0
    · rw [advance_start hs ha] at h
      split_ifs at h
      · cases h; exact .inl ⟨_, s, .truncated s, rfl⟩
      · exact exec_failsOnlyByRule (s := s.setCur (Cursor.atByte (s.cur.byte + 2))) h
    · rw [advance_start_misaligned hs ha] at h; cases h
  · rw [advance_of_ne_start hs] at h
    exact exec_failsOnlyByRule h

/-- A step of this hardware fails only by a rule, whatever the host does: request and reset clear the result (R89, R118). -/
theorem step_failsOnlyByRule (h : step s = .next t) : FailsOnlyByRule hardware s t := by
  obtain ⟨-, he⟩ | ⟨_, -, -, he⟩ | ⟨-, -, he⟩ | ⟨-, -, he⟩ := step_cases s <;> rw [he] at h
  · cases h; exact .of_ok rfl nofun
  · cases h; exact .of_ok rfl nofun
  · cases h; exact .of_same rfl rfl
  · exact advance_failsOnlyByRule (s := s.sampled) h

/-- A step into `Failed` with `Truncated` records the byte in which the failing read left the cursor (R61, R110). -/
theorem errOffset_of_step_truncated (h : step s = .next t) (hs : s.stage ≠ .failed) (ht : t.stage = .failed)
    (hstatus : t.status = .truncated) : t.errOffset = t.cur.byte := by
  obtain ⟨e, u, he, rfl⟩ | ⟨-, hfailed⟩ := step_failsOnlyByRule h
  · cases he with
    | truncated => rfl
    | unsupportedVersion => cases hstatus
    | invalidAddress => cases hstatus
  · exact absurd (hfailed ht) hs

/-- Settles O39: failure entry is its own definition, a read that raises has changed nothing, and `Failed` waits. -/
theorem failureEntryWritesOnlyTheResult : Obligations.FailureEntryWritesOnlyTheResult := by
  refine ⟨fun _ _ _ _ h => runCursorOp_raised h, fun _ _ h hs ht hstatus => errOffset_of_step_truncated h hs ht hstatus,
    fun t ht hq => step_quiet_of_waiting (Stage.waiting_iff.mpr (.inr (.inr ht))) hq, fun e s g => ?_⟩
  cases e <;> rfl

/-- No rule raises `InconsistentLength` (R108). -/
theorem Raisable.status_ne_inconsistentLength {e : DecodeError} (h : Raisable cfg e u) :
    errorStatus e ≠ .inconsistentLength := by
  cases h <;> nofun

/-- This hardware accepts every address, so its rules do not raise `InvalidAddress` (R7, R107). -/
theorem Raisable.status_ne_invalidAddress {e : DecodeError} (h : Raisable hardware e u) :
    errorStatus e ≠ .invalidAddress := by
  cases h with
  | truncated => nofun
  | unsupportedVersion => nofun
  | invalidAddress _ _ hrejected => exact absurd rfl hrejected

/-- A kind of failure that no rule raises is shown afterwards only when it was before. -/
theorem FailsOnlyByRule.status_before {x : Status} (h : FailsOnlyByRule cfg s t) (hok : x ≠ .ok)
    (hnever : ∀ {e u}, Raisable cfg e u → errorStatus e ≠ x) (hx : t.status = x) : s.status = x := by
  obtain ⟨e, u, he, rfl⟩ | ⟨hsame | hclear, -⟩ := h
  · exact absurd hx (hnever he)
  · exact hsame.symm.trans hx
  · exact absurd (hx.symm.trans hclear) hok

/-- Settles O40: a transition and a step fail only by a rule, and no rule raises the two kinds. -/
theorem unreachableKindsAreNeverRaised : Obligations.UnreachableKindsAreNeverRaised :=
  ⟨fun _ _ h => (step_failsOnlyByRule h).status_before nofun Raisable.status_ne_invalidAddress,
    fun _ _ _ _ h => (transition_failsOnlyByRule h).status_before nofun Raisable.status_ne_inconsistentLength⟩

/-- Settles O13: Frame Control fits, and the class that it selects holds its version. -/
theorem badVersionFailsWhateverFollows : Obligations.BadVersionFailsWhateverFollows := by
  rintro s ⟨hs, hcur⟩ hfits hversion hr
  have hbyte : s.cur.byte = 0 := congrArg Cursor.byte hcur
  rw [step_start hs (congrArg Cursor.bit hcur) hr, hbyte, if_neg (Nat.not_lt.mpr hfits), fetchedInstr_read16,
    exec_start_unsupported (s := s.sampled.setCur _) hs (by rw [frameControl_decodeFrameControl]; exact hversion)]
  exact ⟨_, rfl, rfl, result_failureEntry _ _, rfl⟩

/-! What the host sees. -/

theorem done_iff : s.done = true ↔ s.stage = .done ∨ s.stage = .failed := by
  unfold State.done
  cases s.stage <;> decide

/-- `SUB_RESERVED` is 1 exactly for the subtypes that carry their code (R19). -/
theorem subReserved_iff (k : Subkind) : subReserved k = true ↔
    ∃ code, k = .control (.reserved code) ∨ k = .management (.reserved code) ∨ k = .extension (.reserved code) := by
  rcases k with k | k | k | k <;> cases k <;> simp [subReserved]

/-- The Data bits are reported for Data frames, whose type code is 2 (R19, R68). -/
theorem dataBits_subkind (fc : FrameControl) :
    dataBits (subkind fc) = if fc.type = 2 then some (dataSubtype fc.subtype) else none := by
  rw [← familyCode_family fc]
  cases hf : family fc with
  | control => rw [subkind_of_control hf]; rfl
  | management => rw [subkind_of_management hf]; rfl
  | data => rw [subkind_of_data hf]; rfl
  | extension => rw [subkind_of_extension hf]; rfl

theorem result_of_done (h : s.done = true) : s.result = some (statusResult s) := if_pos h

theorem ports_of_done (h : s.done = true) : s.ports =
    { done := true, status := some s.status.code, errOffset := some s.errOffset,
      frame := if s.status == .ok then some (registersPorts s) else none } := by
  unfold State.ports
  rw [h]
  rfl

theorem result_of_busy (h : s.done = false) : s.result = none := if_neg (Bool.eq_false_iff.mp h)

theorem ports_of_busy (h : s.done = false) : s.ports = { done := false, status := none, errOffset := none, frame := none } := by
  unfold State.ports
  rw [h]
  rfl

/-- Settles O49: `DONE` opens the result and its ports, and `STATUS` chooses between the frame and the error. -/
theorem hostSeesOnlyWhatIsValid : Obligations.HostSeesOnlyWhatIsValid := by
  intro s
  refine ⟨fun hstage hok => ?_, fun ⟨hdone, hfailed⟩ => ?_, fun hstage => ?_⟩
  · rw [result_of_done (done_iff.mpr hstage), ports_of_done (done_iff.mpr hstage), statusResult, hok]
    exact ⟨rfl, _, rfl, rfl, familyCode_family s.fc, subReserved_iff _, dataBits_subkind s.fc, rfl, rfl, rfl, rfl, rfl⟩
  · have hbusy : s.done = false := Bool.eq_false_iff.mpr fun h => (done_iff.mp h).elim hdone hfailed
    exact ⟨result_of_busy hbusy, ports_of_busy hbusy⟩
  · rw [result_of_done (done_iff.mpr hstage), ports_of_done (done_iff.mpr hstage), statusResult]
    refine ⟨fun h => ?_, fun h => ?_, fun h => ?_, fun h => ?_⟩ <;> rw [h] <;> exact ⟨rfl, rfl⟩

/-! Where a truncated buffer fails. -/

/-- The failure of the first listed field, given by offset and length, that ends past `len`. -/
def firstCut (len : Nat) (fields : List (Nat × Nat)) : Option DecodeError :=
  (fields.find? fun f => decide (len < f.1 + f.2)).map fun f => .truncated f.1

theorem firstCut_append (len : Nat) (xs ys : List (Nat × Nat)) :
    firstCut len (xs ++ ys) = (firstCut len xs).or (firstCut len ys) := by
  rw [firstCut, List.find?_append, Option.map_or, firstCut, firstCut]

theorem firstCut_cons (len b n : Nat) (ys : List (Nat × Nat)) :
    firstCut len ((b, n) :: ys) = (failWhen (decide (len < b + n)) (.truncated b)).or (firstCut len ys) := by
  rw [firstCut, List.find?_cons]
  cases decide (len < b + n) <;> rfl

theorem firstCut_optional (len b n : Nat) (p : Bool) :
    firstCut len (if p then [(b, n)] else []) = failWhen (p && decide (len < b + n)) (.truncated b) := by
  cases p with
  | true => exact (firstCut_cons len b n []).trans Option.or_none
  | false => rfl

/-- The fields that do not fit, when there are any, begin with the one whose failure is taken. -/
theorem firstCut_of_filter_eq_cons {len : Nat} {fields rest : List (Nat × Nat)} {f : Nat × Nat}
    (h : (fields.filter fun f => decide (len < f.1 + f.2)) = f :: rest) : firstCut len fields = some (.truncated f.1) := by
  rw [firstCut, ← List.head?_filter, h]
  rfl

theorem firstCut_of_filter_eq_nil {len : Nat} {fields : List (Nat × Nat)}
    (h : (fields.filter fun f => decide (len < f.1 + f.2)) = []) : firstCut len fields = none := by
  rw [firstCut, ← List.head?_filter, h]
  rfl

/-- R105, R109: for a supported version and every address accepted, the failures left are the present fields that do not fit, in
their order, and then the body check. -/
theorem failureInOrder_hardware_of_version0 {buf : Memory} {len : Nat} (hlen : 2 ≤ len)
    (hversion : (bufferControl buf).version = 0) : failureInOrder hardware buf len =
      (firstCut len (Statements.presentFields (bufferControl buf))).or
        (failWhen (decide (len < headerLen hardware (bufferControl buf) + 4))
          (.truncated (headerLen hardware (bufferControl buf)))) := by
  have hcontrol : frameControlFailure buf len = none := by
    rw [frameControlFailure, decide_eq_false (Nat.not_lt.mpr hlen), hversion]
    rfl
  have haddress (b : Nat) : addressFailure hardware buf len b = failWhen (decide (len < b + 6)) (.truncated b) := Option.or_none
  have haddr4 (b : Nat) : addr4Failure hardware (bufferControl buf) buf len b =
      failWhen (pA4 (bufferControl buf) && decide (len < b + 6)) (.truncated b) := by
    have hvalid : hardware.addrValid (buf.bytes b 6) = true := rfl
    rw [addr4Failure, hvalid, Bool.not_true, Bool.and_false]
    exact Option.or_none
  have hnil : firstCut len [] = none := rfl
  simp only [failureInOrder, hcontrol, addressesFailure, haddress, haddr4, Statements.presentFields, firstCut_append,
    firstCut_cons, firstCut_optional, hnil, Option.none_or, Option.or_none, Option.or_assoc]

/-- All the fields a header can have, in field order, each as its offset and its length (R42, R43). -/
def headerFields (fc : FrameControl) : List (Nat × Nat) :=
  [(2, 2), (4, 6), (10, 6), (16, 6)] ++ [(22, 2)] ++ [(offA4 fc, 6)] ++ [(offQos fc, 2)] ++ [(offHt fc, 4)]

theorem presentFields_sublist (fc : FrameControl) : (Statements.presentFields fc).Sublist (headerFields fc) := by
  have hoptional (p : Bool) (f : Nat × Nat) : (if p then [f] else []).Sublist [f] := by
    cases p with
    | true => exact List.Sublist.refl _
    | false => exact List.nil_sublist _
  exact ((((List.Sublist.refl _).append (hoptional _ _)).append (hoptional _ _)).append (hoptional _ _)).append (hoptional _ _)

/-- The offsets of R43 do not fall from one field to the next. -/
theorem headerFields_sorted (fc : FrameControl) : (headerFields fc).Pairwise fun f g => f.1 ≤ g.1 := by
  have hA4 : 22 ≤ offA4 fc := Nat.le_add_right _ _
  have hQos : offA4 fc ≤ offQos fc := Nat.le_add_right _ _
  have hHt : offQos fc ≤ offHt fc := Nat.le_add_right _ _
  simp only [headerFields, List.cons_append, List.nil_append, List.pairwise_cons, List.forall_mem_cons, List.not_mem_nil,
    false_implies, implies_true, List.Pairwise.nil, and_true]
  omega

theorem presentFields_sorted (fc : FrameControl) : (Statements.presentFields fc).Pairwise fun f g => f.1 ≤ g.1 :=
  (headerFields_sorted fc).sublist (presentFields_sublist fc)

/-- In fields sorted by offset, the first that does not fit has the smallest offset of them (R105). -/
theorem offset_le_of_filter_eq_cons {fields rest : List (Nat × Nat)} {f : Nat × Nat} {p : Nat × Nat → Bool}
    (hsorted : fields.Pairwise fun f g => f.1 ≤ g.1) (h : fields.filter p = f :: rest) : ∀ g ∈ f :: rest, f.1 ≤ g.1 := by
  have hcut := hsorted.filter p
  rw [h] at hcut
  exact List.forall_mem_cons.mpr ⟨Nat.le_refl _, fun _ => List.rel_of_pairwise_cons hcut⟩

/-! The end of a run, by its first failure. -/

theorem runs_result_of_failure {e : DecodeError} (hw : s.stage.waiting = true) (hrun : Statements.runs s frame t)
    (hfail : failureInOrder hardware (Memory.ofBytes frame) frame.length = some e) : t.result = some (.err e) := by
  have hends := core_run_request_ends hw frame
  rw [hrun, hfail] at hends
  obtain ⟨u, hu⟩ := hends
  cases hu
  exact result_failureEntry e u

theorem runs_done_of_no_failure (hw : s.stage.waiting = true) (hrun : Statements.runs s frame t)
    (hnone : failureInOrder hardware (Memory.ofBytes frame) frame.length = none) : t.stage = .done := by
  have hends := core_run_request_ends hw frame
  rw [hrun, hnone] at hends
  cases hends
  rfl

/-- Settles O58: the first failure of the buffer is that of the first present field that does not fit, and the fields stand in
the order of their offsets. -/
theorem truncationHasItsClosedForm : Obligations.TruncationHasItsClosedForm := by
  intro s t frame hw hrun
  refine ⟨fun hshort => ?_, fun hlen hversion => ?_⟩
  · refine runs_result_of_failure hw hrun ?_
    rw [failureInOrder, frameControlFailure, decide_eq_true hshort]
    rfl
  have hfailure := failureInOrder_hardware_of_version0 hlen hversion
  refine ⟨fun hcut => ?_, fun hcut hbody => ?_, fun _ hfits => ?_⟩
  · obtain ⟨f, rest, hcons⟩ := List.exists_cons_of_ne_nil hcut
    rw [hcons]
    refine ⟨f, List.mem_cons_self, runs_result_of_failure hw hrun ?_,
      offset_le_of_filter_eq_cons (presentFields_sorted _) hcons⟩
    rw [hfailure, firstCut_of_filter_eq_cons hcons]
    rfl
  · refine runs_result_of_failure hw hrun ?_
    rw [hfailure, firstCut_of_filter_eq_nil hcut, decide_eq_true hbody]
    rfl
  · exact runs_done_of_no_failure hw hrun (failureInOrder_hardware_eq_none_iff.mpr ⟨hversion, hfits⟩)

end Sys2Proof.Machine
end

section
/-! SUPPORT. Reset and hazards (70_reset_and_hazards.md): a busy decoder ignores what a request presents (R122), and reset
abandons whatever is in progress (R118). -/

namespace Sys2Proof.Machine

variable {s : State}

/-- A busy decoder drops every event but reset, with all that it presents, and makes its transition (R88, R122). -/
theorem step_setHost_cons_of_busy {e : HostEvent} (hw : s.stage.waiting = false) (he : e ≠ .reset) (rest : List HostEvent) :
    step (s.setHost (e :: rest)) = advance (s.setHost rest) :=
  step_of_busy (s := s.setHost (e :: rest)) hw he

/-- Settles O46: a busy decoder drops the request as it drops the quiet event. -/
theorem requestWhileBusyIsIgnored : Obligations.RequestWhileBusyIsIgnored := by
  intro s frame rest hidle hdone hfailed
  have hw : s.stage.waiting = false := Bool.eq_false_iff.mpr fun h =>
    (Stage.waiting_iff.mp h).elim hidle fun h => h.elim hdone hfailed
  calc step (s.setHost (.request frame :: rest))
    _ = advance (s.setHost rest) := step_setHost_cons_of_busy hw (by nofun) rest
    _ = step (s.setHost (.quiet :: rest)) := (step_setHost_cons_of_busy hw (by nofun) rest).symm

/-- Whatever the decoder is doing, a step with reset on the ports is the reset (R118). -/
theorem step_of_reset (hr : s.hostNow = .reset) : step s = .next (hardReset s.sampled) := by
  obtain ⟨-, he⟩ | ⟨f, hf, -⟩ | ⟨hq, -⟩ | ⟨hn, -⟩ := step_cases s
  · exact he
  · rw [hr] at hf; cases hf
  · rw [hr] at hq; cases hq
  · exact absurd hr hn

/-- Settles O47: the step is the reset, which keeps the inputs and the events still to come. -/
theorem resetAbandonsTheTransaction : Obligations.ResetAbandonsTheTransaction := fun _ => step_of_reset

end Sys2Proof.Machine
end

section
/-! SUPPORT. Which registers a transition may write, by the state it starts from (R17, R18, R21, R22), and the frame that the last
one yields (R98). -/

namespace Sys2Proof.Machine

variable {α : Type} {fc : FrameControl} {s t : State}

/-! The registers around the field registers. -/

/-- A transition that answers ended with a value, or failed (R90 to R97, R99). -/
theorem settle_next_cases {g : Stage} {r : Res Unit} (h : settle g r = .next t) :
    (∃ u, r = .ok () u ∧ t = u.setStage g) ∨ (∃ e u, r = .raised e u ∧ t = failureEntry e u) := by
  cases r with
  | ok _ u => cases h; exact .inl ⟨u, rfl, rfl⟩
  | raised e u => cases h; exact .inr ⟨e, u, rfl, rfl⟩
  | fault _ => cases h
  | refused _ => cases h

/-- A read of fields keeps the Frame Control registers and the roles, and unless it fails the result registers too. -/
theorem settle_keeps_outside_fields {g : Stage} {r : Res Unit} (hr : r.OnlyReads s) (h : settle g r = .next t) :
    t.fc = s.fc ∧ t.roles = s.roles ∧ (t.stage ≠ .failed → t.status = s.status ∧ t.errOffset = s.errOffset) := by
  obtain ⟨u, rfl, rfl⟩ | ⟨e, u, rfl, rfl⟩ := settle_next_cases h <;> obtain ⟨c, f, rfl, -⟩ := hr
  · exact ⟨rfl, rfl, fun _ => ⟨rfl, rfl⟩⟩
  · exact ⟨rfl, rfl, fun hne => absurd rfl hne⟩

/-- The Frame Control decode writes the Frame Control registers, and the result when it fails (R62, R63). -/
theorem settle_writeFrameControl_cases {g : Stage} (h : settle g (writeFrameControl fc s) = .next t) :
    t = (s.setFc fc).setStage g ∨ t = failureEntry (.unsupportedVersion 0) (s.setFc fc) := by
  unfold writeFrameControl at h
  split_ifs at h <;> cases h
  · exact .inl rfl
  · exact .inr rfl

/-- Frame Control is written from `Start` alone, the roles in the last transition alone, and the result on the way into `Done` or
`Failed` alone, whatever the parameters (R17, R22, R110; assumption log 6). -/
theorem transition_writes_outside_fields {cfg : Config} (h : transition cfg fc s = .next t) :
    (s.stage ≠ .start → t.fc = s.fc) ∧ (s.stage ≠ .integrityFieldRead → t.roles = s.roles) ∧
      (t.stage ≠ .failed → t.stage ≠ .done → t.status = s.status ∧ t.errOffset = s.errOffset) := by
  obtain ⟨-, he⟩ | ⟨hs, he⟩ | ⟨g, r, hr, he⟩ | ⟨hs, he⟩ := transition_cases cfg fc s <;> rw [he] at h
  · cases h
    exact ⟨fun _ => rfl, fun _ => rfl, fun _ _ => ⟨rfl, rfl⟩⟩
  · obtain rfl | rfl := settle_writeFrameControl_cases h
    · exact ⟨absurd hs, fun _ => rfl, fun _ _ => ⟨rfl, rfl⟩⟩
    · exact ⟨absurd hs, fun _ => rfl, fun hne => absurd rfl hne⟩
  · obtain ⟨hfc, hroles, hresult⟩ := settle_keeps_outside_fields hr h
    exact ⟨fun _ => hfc, fun _ => hroles, fun hne _ => hresult hne⟩
  · cases h
    exact ⟨fun _ => rfl, absurd hs, fun _ hne => absurd rfl hne⟩

/-! The field registers: each operation leaves all but its own as they were. -/

/-- The field registers in which the operation ends, with a value or by raising, meet `P`. -/
def Res.FieldsMeet (P : Fields → Prop) : Res α → Prop
  | .ok _ u => P u.fields
  | .raised _ u => P u.fields
  | .fault _ => True
  | .refused _ => True

theorem settle_fields {g : Stage} {r : Res Unit} {P : Fields → Prop} (hr : r.FieldsMeet P) (h : settle g r = .next t) :
    P t.fields := by
  obtain ⟨u, rfl, rfl⟩ | ⟨e, u, rfl, rfl⟩ := settle_next_cases h <;> exact hr

/-- A check that passes or raises leaves fields that meet `P` when both of its ends do. -/
theorem Res.FieldsMeet.ite {p : Prop} [Decidable p] {P : Fields → Prop} {e : DecodeError} {u : State} {r : Res α}
    (hraised : P u.fields) (hr : r.FieldsMeet P) : (if p then Res.raised e u else r).FieldsMeet P := by
  split_ifs
  · exact hraised
  · exact hr

/-- An operation that faults off a byte boundary has to be looked at on one only (R57). -/
theorem Res.FieldsMeet.of_boundary {P : Fields → Prop} {r : Res α} (hfault : s.cur.bit ≠ 0 → r = .fault .misaligned)
    (haligned : s.cur.bit = 0 → r.FieldsMeet P) : r.FieldsMeet P := by
  by_cases ha : s.cur.bit = 0
  · exact haligned ha
  · rw [hfault ha]; trivial

theorem readAddresses_fields (s : State) :
    (readAddresses hardware s).FieldsMeet fun f =>
      f = { s.fields with durationId := f.durationId, addr1 := f.addr1, addr2 := f.addr2, addr3 := f.addr3 } := by
  refine .of_boundary (readAddresses_misaligned hardware) fun ha => ?_
  rw [readAddresses_hardware ha]
  exact .ite rfl (.ite rfl (.ite rfl (.ite rfl rfl)))

theorem readSequence_fields (fc : FrameControl) (s : State) :
    (readSequence fc s).FieldsMeet fun f =>
      f = { s.fields with scFrag := f.scFrag, scSeq := f.scSeq, scValid := f.scValid } := by
  cases hp : pSc fc with
  | false => rw [readSequence_absent fc s hp]; rfl
  | true =>
    refine .of_boundary (s := s) (fun ha => ?_) fun ha => ?_
    · rw [readSequence, if_pos hp, byteAlign_andThen_misaligned ha]
    · rw [readSequence_aligned fc ha hp]
      exact .ite rfl (.ite rfl rfl)

theorem readAddr4_fields (fc : FrameControl) (s : State) :
    (readAddr4 hardware fc s).FieldsMeet fun f => f = { s.fields with addr4 := f.addr4, addr4Valid := f.addr4Valid } := by
  cases hp : pA4 fc with
  | false => rw [readAddr4_absent hardware fc s hp]; rfl
  | true =>
    refine .of_boundary (s := s) (fun ha => ?_) fun ha => ?_
    · rw [readAddr4, if_pos hp, readAddress, takeBytes_misaligned 6 ha]; rfl
    · rw [readAddr4_present hardware fc ha hp]
      exact .ite rfl rfl

theorem readQos_fields (fc : FrameControl) (s : State) :
    (readQos fc s).FieldsMeet fun f => f = { s.fields with qos := f.qos, qosValid := f.qosValid } := by
  cases hp : pQos fc with
  | false => rw [readQos_absent fc s hp]; rfl
  | true =>
    refine .of_boundary (s := s) (fun ha => ?_) fun ha => ?_
    · rw [readQos, if_pos hp, readU16_misaligned ha, Res.andThen_fault]
    · rw [readQos_present fc ha hp]
      exact .ite rfl rfl

theorem readHt_fields (cfg : Config) (fc : FrameControl) (s : State) :
    (readHt cfg fc s).FieldsMeet fun f => f = { s.fields with ht := f.ht, htValid := f.htValid } := by
  cases hp : pHt cfg fc with
  | false => rw [readHt_absent cfg fc s hp]; rfl
  | true =>
    refine .of_boundary (s := s) (fun ha => ?_) fun ha => ?_
    · rw [readHt, if_pos hp, readU32_misaligned ha, Res.andThen_fault]
    · rw [readHt_present cfg fc ha hp]
      exact .ite rfl rfl

theorem resolveBody_fields (s : State) :
    (resolveBody s).FieldsMeet fun f =>
      f = { s.fields with hdrLen := f.hdrLen, bodyOff := f.bodyOff, bodyLen := f.bodyLen } := by
  refine .of_boundary resolveBody_misaligned fun ha => ?_
  rw [resolveBody_aligned ha]
  exact .ite rfl rfl

theorem readIntegrity_fields (s : State) : (readIntegrity s).FieldsMeet fun f => f = { s.fields with fcs := f.fcs } := by
  refine .of_boundary readIntegrity_misaligned fun ha => ?_
  rw [readIntegrity_aligned ha]
  exact .ite rfl rfl

/-- Settles O42: outside the field registers by what a transition can be, and the field registers stage by stage. -/
theorem eachTransitionWritesOnlyItsRegisters : Obligations.EachTransitionWritesOnlyItsRegisters := by
  intro i s t h
  rw [exec_eq_transition] at h
  obtain ⟨hfc, hroles, hresult⟩ := transition_writes_outside_fields h
  refine ⟨hfc, hroles, hresult, ?_⟩
  cases hs : s.stage <;> simp only [transition, hs] at h ⊢
  case idle | done | failed => cases h; rfl
  case start => obtain rfl | rfl := settle_writeFrameControl_cases h <;> exact ⟨rfl, rfl⟩
  case frameControlDecoded => exact settle_fields (readAddresses_fields s) h
  case addressesDecoded => exact settle_fields (readSequence_fields _ s) h
  case sequenceControlResolved => exact settle_fields (readAddr4_fields _ s) h
  case address4Resolved => exact settle_fields (readQos_fields _ s) h
  case qosResolved => exact settle_fields (readHt_fields hardware _ s) h
  case htResolved => exact settle_fields (resolveBody_fields s) h
  case bodyResolved => exact settle_fields (readIntegrity_fields s) h
  case integrityFieldRead => cases h; exact ⟨rfl, rfl⟩

/-! The last transition. -/

/-- Settles O37: the transition is `finish`, after which `STATUS` 0 in `Done` reads as the frame in the registers. -/
theorem lastTransitionYieldsTheFrame : Obligations.LastTransitionYieldsTheFrame := by
  intro i s hs
  refine ⟨finish i.frameControl s, ?_, rfl, rfl, rfl⟩
  rw [exec_eq_transition, transition, hs]

end Sys2Proof.Machine
end

section
/-! SUPPORT. The invariant of the decoder's states (Safety.lean) holds after reset and is kept by every step. Reset and request
start afresh, a waiting decoder stays, and a busy one goes stage by stage into the next state or into `Failed`. -/

namespace Sys2Proof.Machine

open Safety (Inv InputOk CursorOk RegistersOk)

variable {fc : FrameControl} {s t : State} {n : Nat}

/-! The optional fields, by how many transitions have been taken. -/

/-- An absent field of one piece holds its reset value (R25; assumption log 15). It outlives a failure. -/
structure AbsentAreReset (f : Fields) : Prop where
  noAddress4 : f.addr4Valid = false → f.addr4 = HwAddress.zero
  noQos : f.qosValid = false → f.qos = 0
  noHt : f.htValid = false → f.ht = 0

/-- After `n` transitions a valid bit is its presence predicate from its own transition on, and an absent field holds its reset
value (R74, R78, R80, R82). -/
structure OptionalFieldsOk (fc : FrameControl) (n : Nat) (f : Fields) : Prop where
  sequence : f.scValid = (decide (3 ≤ n) && pSc fc)
  address4 : f.addr4Valid = (decide (4 ≤ n) && pA4 fc)
  qos : f.qosValid = (decide (5 ≤ n) && pQos fc)
  ht : f.htValid = (decide (6 ≤ n) && pHt hardware fc)
  noSequence : f.scValid = false → f.scFrag = 0 ∧ f.scSeq = 0
  absent : AbsentAreReset f

theorem absentAreReset_reset : AbsentAreReset Fields.reset := ⟨fun _ => rfl, fun _ => rfl, fun _ => rfl⟩

theorem optionalFieldsOk_reset (fc : FrameControl) (h : n < 3) : OptionalFieldsOk fc n Fields.reset where
  sequence := by rw [decide_eq_false (by omega)]; rfl
  address4 := by rw [decide_eq_false (by omega)]; rfl
  qos := by rw [decide_eq_false (by omega)]; rfl
  ht := by rw [decide_eq_false (by omega)]; rfl
  noSequence := fun _ => ⟨rfl, rfl⟩
  absent := absentAreReset_reset

/-! Each transition keeps it for one transition more: only its own field's valid bit gets another clause. -/

namespace OptionalFieldsOk

theorem withAddresses (h : OptionalFieldsOk fc 1 s.fields) : OptionalFieldsOk fc 2 (withAddresses s).fields :=
  { h with absent := { h.absent with } }

theorem withSequence (h : OptionalFieldsOk fc 2 s.fields) : OptionalFieldsOk fc 3 (withSequence fc s).fields :=
  { h with
    sequence := rfl
    noSequence := fun hp => by
      obtain ⟨hfrag, hseq⟩ := h.noSequence h.sequence
      exact ⟨(if_neg (Bool.eq_false_iff.mp hp)).trans hfrag, (if_neg (Bool.eq_false_iff.mp hp)).trans hseq⟩
    absent := { h.absent with } }

theorem withAddr4 (h : OptionalFieldsOk fc 3 s.fields) : OptionalFieldsOk fc 4 (withAddr4 fc s).fields :=
  { h with
    address4 := rfl
    absent := { h.absent with
      noAddress4 := fun hp => (if_neg (Bool.eq_false_iff.mp hp)).trans (h.absent.noAddress4 h.address4) } }

theorem withQos (h : OptionalFieldsOk fc 4 s.fields) : OptionalFieldsOk fc 5 (withQos fc s).fields :=
  { h with
    qos := rfl
    absent := { h.absent with noQos := fun hp => (if_neg (Bool.eq_false_iff.mp hp)).trans (h.absent.noQos h.qos) } }

theorem withHt (h : OptionalFieldsOk fc 5 s.fields) : OptionalFieldsOk fc 6 (withHt hardware fc s).fields :=
  { h with
    ht := rfl
    absent := { h.absent with noHt := fun hp => (if_neg (Bool.eq_false_iff.mp hp)).trans (h.absent.noHt h.ht) } }

theorem withBody (h : OptionalFieldsOk fc 6 s.fields) : OptionalFieldsOk fc 7 (withBody s).fields :=
  { h with absent := { h.absent with } }

theorem withIntegrity (h : OptionalFieldsOk fc 7 s.fields) : OptionalFieldsOk fc 8 (withIntegrity s).fields :=
  { h with absent := { h.absent with } }

theorem finish (h : OptionalFieldsOk fc 8 s.fields) : OptionalFieldsOk fc 9 (finish fc s).fields :=
  { h with absent := { h.absent with } }

end OptionalFieldsOk

/-- Header, body and integrity field fill a buffer of `len` bytes (R26, R85, R86). -/
def FillsBuffer (fc : FrameControl) (len : Nat) (f : Fields) : Prop :=
  f.hdrLen = headerLen hardware fc ∧ f.bodyOff = f.hdrLen ∧ f.hdrLen + f.bodyLen + 4 = len

/-! States that meet the invariant. -/

/-- An aligned cursor at the byte that the state fixes, within the buffer (R15, R90 to R98). -/
theorem cursorOk_of_aligned (haligned : t.cur.bit = 0) (hbyte : Safety.cursorByte t.fc t.len t.stage = some t.cur.byte)
    (hfits : t.cur.byte ≤ t.len) : CursorOk t where
  within := by rw [State.bitPos_aligned haligned]; exact Nat.mul_le_mul_left 8 hfits
  aligned := fun _ => haligned
  placed := fun _ hb => Option.some.inj (hbyte.symm.trans hb)

/-- The optional fields as they are at `STATE`, and the other registers. -/
theorem registersOk_of_fields (hidle : t.stage = .idle → t = hardReset t)
    (hstart : t.stage = .start → t = (hardReset t).setStage .start)
    (hfc : 1 ≤ Safety.progress t.stage → t.fc = bufferControl t.buf ∧ t.fc.version = 0)
    (hfields : OptionalFieldsOk t.fc (Safety.progress t.stage) t.fields)
    (hroles : t.roles = if t.stage = .done then roleTable t.fc else State.reset.roles) : RegistersOk t :=
  { hfields.absent with
    idle := hidle
    start := hstart
    version := hfc
    sequence := fun _ => hfields.sequence
    address4 := fun _ => hfields.address4
    qos := fun _ => hfields.qos
    ht := fun _ => hfields.ht
    noSequence := fun _ => hfields.noSequence
    roles := hroles }

/-- A decoder in `Idle` or `Start` has every register at its reset value (R16, R25, R89). -/
theorem inv_of_fresh (hinput : InputOk t) (hstage : t.stage = .idle ∨ t.stage = .start)
    (hfresh : t = (hardReset t).setStage t.stage) : Inv t := by
  have hcur : t.cur = Cursor.atByte 0 := congrArg State.cur hfresh
  have hfields : t.fields = Fields.reset := congrArg State.fields hfresh
  have hroles : t.roles = State.reset.roles := by rw [hfresh]; rfl
  have hprogress : Safety.progress t.stage = 0 := by obtain h | h := hstage <;> rw [h] <;> rfl
  have hbyte : Safety.cursorByte t.fc t.len t.stage = some 0 := by obtain h | h := hstage <;> rw [h] <;> rfl
  obtain ⟨hfailed, hdone⟩ : t.stage ≠ .failed ∧ t.stage ≠ .done := by obtain h | h := hstage <;> rw [h] <;> decide
  have hearly {n : Nat} {p : Prop} (h : n + 1 ≤ Safety.progress t.stage) : p := by rw [hprogress] at h; cases h
  exact
    { input := hinput
      cursor := cursorOk_of_aligned (by rw [hcur]; rfl) (by rw [hbyte, hcur]; rfl) (by rw [hcur]; exact Nat.zero_le _)
      registers := registersOk_of_fields (fun h => by rw [h] at hfresh; exact hfresh)
        (fun h => by rw [h] at hfresh; exact hfresh) hearly
        (by rw [hprogress, hfields]; exact optionalFieldsOk_reset t.fc (by decide)) (by rw [if_neg hdone, hroles])
      result :=
        { noError := fun _ => ⟨congrArg State.status hfresh, congrArg State.errOffset hfresh⟩
          error := fun h => absurd h hfailed
          body := hearly } }

/-- A decoder that is past `Start` and has not failed. -/
theorem inv_of_progress (hpast : 1 ≤ Safety.progress t.stage) (hinput : InputOk t) (hcursor : CursorOk t)
    (hfc : t.fc = bufferControl t.buf ∧ t.fc.version = 0)
    (hfields : OptionalFieldsOk t.fc (Safety.progress t.stage) t.fields)
    (hroles : t.roles = if t.stage = .done then roleTable t.fc else State.reset.roles)
    (hresult : t.status = .ok ∧ t.errOffset = 0)
    (hbody : 7 ≤ Safety.progress t.stage → FillsBuffer t.fc t.len t.fields) : Inv t := by
  have hnot {g : Stage} {p : Prop} (hg : Safety.progress g = 0) (h : t.stage = g) : p := by rw [h, hg] at hpast; cases hpast
  exact
    { input := hinput
      cursor := hcursor
      registers := registersOk_of_fields (hnot rfl) (hnot rfl) (fun _ => hfc) hfields hroles
      result := { noError := fun _ => hresult, error := hnot rfl, body := hbody } }

/-- A decoder that has failed: what a failing transition may leave half done is not spoken of (R110; assumption log 15). -/
theorem inv_of_failed (hstage : t.stage = .failed) (hinput : InputOk t) (hwithin : t.bitPos ≤ 8 * t.len)
    (habsent : AbsentAreReset t.fields) (hroles : t.roles = State.reset.roles)
    (herror : (t.status = .truncated ∨ (t.status = .unsupportedVersion ∧ t.errOffset = 0)) ∧ t.errOffset ≤ t.len) : Inv t := by
  have hno {p : Prop} (h : t.stage ≠ .failed) : p := absurd hstage h
  have hother {g : Stage} {p : Prop} (hg : g ≠ .failed) (h : t.stage = g) : p := absurd (h.symm.trans hstage) hg
  have hearly {n : Nat} {p : Prop} (h : n + 1 ≤ Safety.progress t.stage) : p := by rw [hstage] at h; cases h
  exact
    { input := hinput
      cursor := { within := hwithin, aligned := hno, placed := fun b hb => by rw [hstage] at hb; cases hb }
      registers :=
        { habsent with
          idle := hother nofun
          start := hother nofun
          version := hearly
          sequence := hno
          address4 := hno
          qos := hno
          ht := hno
          noSequence := hno
          roles := by rw [hroles, hstage]; rfl }
      result := { noError := hno, error := fun _ => herror, body := hearly } }

/-- What the host will do is no part of the invariant. -/
theorem inv_setHost (hinv : Inv s) (events : List HostEvent) : Inv (s.setHost events) where
  input := { hinv.input with }
  cursor := { hinv.cursor with }
  registers := { hinv.registers with
    idle := fun h => show _ = (hardReset s).setHost events from congrArg (State.setHost · events) (hinv.registers.idle h)
    start := fun h => show _ = ((hardReset s).setStage .start).setHost events from
      congrArg (State.setHost · events) (hinv.registers.start h) }
  result := { hinv.result with }

/-- Settles O50: every register is at its reset value, and the buffer is empty. -/
theorem resetStateMeetsTheInvariant : Obligations.ResetStateMeetsTheInvariant :=
  inv_of_fresh ⟨rfl, rfl⟩ (.inl rfl) rfl

theorem inv_hardReset (hinput : InputOk s) : Inv (hardReset s) := inv_of_fresh { hinput with } (.inl rfl) rfl

/-- The presented frame is in canonical form and within its length (R89). -/
theorem inv_acceptRequest (frame : List Byte) (s : State) : Inv (acceptRequest frame s) :=
  inv_of_fresh ⟨Memory.ofBytes_wf frame, Memory.ofBytes_inside frame⟩ (.inr rfl) rfl

/-! The two ends of a read from a state past `Start`. -/

/-- The states from `FrameControlDecoded` to `IntegrityFieldRead`. -/
abbrev Stage.reads (g : Stage) : Prop := 1 ≤ Safety.progress g ∧ g ≠ .done

theorem Stage.reads.ne_failed {g : Stage} (h : g.reads) : g ≠ .failed := by
  rintro rfl
  exact absurd h.1 (by decide)

theorem byte_le_of_inv (hinv : Inv s) : s.cur.byte ≤ s.len := by
  have hwithin := hinv.cursor.within
  unfold State.bitPos at hwithin
  omega

theorem optionalFieldsOk_of_inv (hinv : Inv s) (hs : s.stage ≠ .failed) :
    OptionalFieldsOk s.fc (Safety.progress s.stage) s.fields where
  sequence := hinv.registers.sequence hs
  address4 := hinv.registers.address4 hs
  qos := hinv.registers.qos hs
  ht := hinv.registers.ht hs
  noSequence := hinv.registers.noSequence hs
  absent := { hinv.registers with }

theorem roles_of_inv (hinv : Inv s) (hs : s.stage.reads) : s.roles = State.reset.roles :=
  hinv.registers.roles.trans (if_neg hs.2)

/-- The fields are in their registers and the cursor is past them. -/
theorem inv_after_read (hinv : Inv s) (hs : s.stage.reads) {g : Stage} (hg : g.reads) {b : Nat} {f : Fields}
    (hbyte : Safety.cursorByte s.fc s.len g = some b) (hfits : b ≤ s.len)
    (hfields : OptionalFieldsOk s.fc (Safety.progress g) f) (hbody : 7 ≤ Safety.progress g → FillsBuffer s.fc s.len f) :
    Inv (((s.setCur (Cursor.atByte b)).setFields f).setStage g) :=
  inv_of_progress hg.1 { hinv.input with } (cursorOk_of_aligned rfl hbyte hfits) (hinv.registers.version hs.1) hfields
    ((roles_of_inv hinv hs).trans (if_neg hg.2).symm) (hinv.result.noError hs.ne_failed) hbody

/-- The cursor is left at the read that did not fit, with the fields before it in their registers (R61, R110). -/
theorem inv_after_truncated (hinv : Inv s) (hs : s.stage.reads) {c : Cursor} {f : Fields}
    (hwithin : 8 * c.byte + c.bit.val ≤ 8 * s.len) (habsent : AbsentAreReset f) :
    Inv (failureEntry (.truncated c.byte) ((s.setCur c).setFields f)) :=
  inv_of_failed rfl { hinv.input with } hwithin habsent (roles_of_inv (s := s) hinv hs)
    ⟨.inl rfl, show c.byte ≤ s.len by omega⟩

/-- A read of `n` bytes that fits or raises `Truncated`, with the fields `f` left when it raises. -/
theorem inv_settle (hinv : Inv s) (hs : s.stage.reads) {g : Stage} {f : Fields} {u : State} (habsent : AbsentAreReset f)
    (hfits : s.cur.byte + n ≤ s.len → Inv (u.setStage g))
    (h : settle g (if s.len < s.cur.byte + n then .raised (.truncated s.cur.byte) (s.setFields f) else .ok () u) = .next t) :
    Inv t := by
  split_ifs at h with hshort <;> cases h
  · exact inv_after_truncated (c := s.cur) hinv hs hinv.cursor.within habsent
  · exact hfits (Nat.not_lt.mp hshort)

/-- The same before the body check, for a read that leaves the state when it raises. -/
theorem inv_settle_field (hinv : Inv s) (hs : s.stage.reads) {g : Stage} (hg : g.reads) (hearly : Safety.progress g < 7)
    {f : Fields} (hbyte : Safety.cursorByte s.fc s.len g = some (s.cur.byte + n))
    (hfields : OptionalFieldsOk s.fc (Safety.progress g) f)
    (h : settle g (if s.len < s.cur.byte + n then .raised (.truncated s.cur.byte) s
      else .ok () ((s.setCur (Cursor.atByte (s.cur.byte + n))).setFields f)) = .next t) : Inv t :=
  inv_settle (f := s.fields) hinv hs (optionalFieldsOk_of_inv hinv hs.ne_failed).absent
    (fun hfits => inv_after_read hinv hs hg hbyte hfits hfields fun hlate => absurd hlate (Nat.not_le.mpr hearly)) h

/-! An optional field, present or absent, fits or raises; an absent one takes no byte (R43, R75, R81, R83). -/

theorem readSequence_of_within (fc : FrameControl) (ha : s.cur.bit = 0) (hle : s.cur.byte ≤ s.len) :
    readSequence fc s =
      if s.len < s.cur.byte + present (pSc fc) 1 then .raised (.truncated s.cur.byte) s
      else if s.len < s.cur.byte + present (pSc fc) 2 then
        .raised (.truncated s.cur.byte)
          ((s.setCur { byte := s.cur.byte, bit := 4 }).setFields
            { s.fields with scFrag := (s.buf.read16 s.cur.byte).extractLsb' 12 4 })
      else .ok () (withSequence fc s) := by
  unfold withSequence
  cases hp : pSc fc with
  | false =>
    rw [readSequence_absent fc s hp, setCur_absent ha]
    exact ((if_neg (Nat.not_lt.mpr hle)).trans (if_neg (Nat.not_lt.mpr hle))).symm
  | true => exact readSequence_aligned fc ha hp

theorem readAddr4_of_within (fc : FrameControl) (ha : s.cur.bit = 0) (hle : s.cur.byte ≤ s.len) :
    readAddr4 hardware fc s =
      if s.len < s.cur.byte + present (pA4 fc) 6 then .raised (.truncated s.cur.byte) s else .ok () (withAddr4 fc s) := by
  unfold withAddr4
  cases hp : pA4 fc with
  | false => rw [readAddr4_absent hardware fc s hp, setCur_absent ha]; exact (if_neg (Nat.not_lt.mpr hle)).symm
  | true => exact readAddr4_present hardware fc ha hp

theorem readQos_of_within (fc : FrameControl) (ha : s.cur.bit = 0) (hle : s.cur.byte ≤ s.len) :
    readQos fc s =
      if s.len < s.cur.byte + present (pQos fc) 2 then .raised (.truncated s.cur.byte) s else .ok () (withQos fc s) := by
  unfold withQos
  cases hp : pQos fc with
  | false => rw [readQos_absent fc s hp, setCur_absent ha]; exact (if_neg (Nat.not_lt.mpr hle)).symm
  | true => exact readQos_present fc ha hp

theorem readHt_of_within (cfg : Config) (fc : FrameControl) (ha : s.cur.bit = 0) (hle : s.cur.byte ≤ s.len) :
    readHt cfg fc s =
      if s.len < s.cur.byte + present (pHt cfg fc) 4 then .raised (.truncated s.cur.byte) s else .ok () (withHt cfg fc s) := by
  unfold withHt
  cases hp : pHt cfg fc with
  | false => rw [readHt_absent cfg fc s hp, setCur_absent ha]; exact (if_neg (Nat.not_lt.mpr hle)).symm
  | true => exact readHt_present cfg fc ha hp

/-! One transition from each state. -/

/-- What a transition from one of these states begins with: the cursor on its boundary, and the fields read so far. -/
theorem reading_of_inv (hinv : Inv s) {g : Stage} {b : Nat} (hs : s.stage = g) (hg : g.reads)
    (hb : Safety.cursorByte s.fc s.len g = some b) :
    s.stage.reads ∧ s.cur.bit = 0 ∧ s.cur.byte = b ∧ OptionalFieldsOk s.fc (Safety.progress g) s.fields := by
  subst hs
  exact ⟨hg, hinv.cursor.aligned hg.ne_failed, hinv.cursor.placed b hb, optionalFieldsOk_of_inv hinv hg.ne_failed⟩

/-- A fixed field that does not fit leaves those before it in their registers (R91, R105). -/
theorem inv_addresses (hinv : Inv s) (hs : s.stage = .frameControlDecoded)
    (h : settle .addressesDecoded (readAddresses hardware s) = .next t) : Inv t := by
  obtain ⟨hreads, ha, hbyte, hfields⟩ := reading_of_inv hinv hs (by decide) rfl
  have hraised {b : Nat} (hb : ¬ s.len < b) : 8 * b ≤ 8 * s.len := Nat.mul_le_mul_left 8 (Nat.not_lt.mp hb)
  rw [readAddresses_hardware ha] at h
  split_ifs at h with hduration haddr1 haddr2 haddr3 <;> cases h
  · exact inv_after_truncated (c := s.cur) (f := s.fields) hinv hreads hinv.cursor.within hfields.absent
  · exact inv_after_truncated (c := .atByte _) hinv hreads (hraised hduration) { hfields.absent with }
  · exact inv_after_truncated (c := .atByte _) hinv hreads (hraised haddr1) { hfields.absent with }
  · exact inv_after_truncated (c := .atByte _) hinv hreads (hraised haddr2) { hfields.absent with }
  · exact inv_after_read hinv hreads (by decide) (by rw [hbyte]; rfl) (Nat.not_lt.mp haddr3) hfields.withAddresses
      fun h => absurd h (by decide)

/-- Where only the second byte of Sequence Control is missing the cursor is left after its first four bits (R79). -/
theorem inv_sequence (hinv : Inv s) (hs : s.stage = .addressesDecoded)
    (h : settle .sequenceControlResolved (readSequence s.fc s) = .next t) : Inv t := by
  obtain ⟨hreads, ha, hbyte, hfields⟩ := reading_of_inv hinv hs (by decide) rfl
  rw [readSequence_of_within s.fc ha (byte_le_of_inv hinv)] at h
  split_ifs at h with hfrag hseq <;> cases h
  · exact inv_after_truncated (c := s.cur) (f := s.fields) hinv hreads hinv.cursor.within hfields.absent
  · have hwithin : 8 * s.cur.byte + 4 ≤ 8 * s.len := by
      unfold present at hfrag hseq
      split_ifs at hfrag hseq <;> omega
    exact inv_after_truncated (c := ⟨s.cur.byte, 4⟩) hinv hreads hwithin { hfields.absent with }
  · exact inv_after_read hinv hreads (by decide) (by rw [hbyte]; rfl) (Nat.not_lt.mp hseq) hfields.withSequence
      fun h => absurd h (by decide)

theorem inv_addr4 (hinv : Inv s) (hs : s.stage = .sequenceControlResolved)
    (h : settle .address4Resolved (readAddr4 hardware s.fc s) = .next t) : Inv t := by
  obtain ⟨hreads, ha, hbyte, hfields⟩ := reading_of_inv hinv hs (by decide) rfl
  rw [readAddr4_of_within s.fc ha (byte_le_of_inv hinv)] at h
  exact inv_settle_field (g := .address4Resolved) hinv hreads (by decide) (by decide) (by rw [hbyte]; rfl) hfields.withAddr4 h

theorem inv_qos (hinv : Inv s) (hs : s.stage = .address4Resolved) (h : settle .qosResolved (readQos s.fc s) = .next t) :
    Inv t := by
  obtain ⟨hreads, ha, hbyte, hfields⟩ := reading_of_inv hinv hs (by decide) rfl
  rw [readQos_of_within s.fc ha (byte_le_of_inv hinv)] at h
  exact inv_settle_field (g := .qosResolved) hinv hreads (by decide) (by decide) (by rw [hbyte]; rfl) hfields.withQos h

theorem inv_ht (hinv : Inv s) (hs : s.stage = .qosResolved) (h : settle .htResolved (readHt hardware s.fc s) = .next t) :
    Inv t := by
  obtain ⟨hreads, ha, hbyte, hfields⟩ := reading_of_inv hinv hs (by decide) rfl
  rw [readHt_of_within hardware s.fc ha (byte_le_of_inv hinv)] at h
  exact inv_settle_field (g := .htResolved) hinv hreads (by decide) (by decide) (by rw [hbyte]; rfl) hfields.withHt h

theorem inv_body (hinv : Inv s) (hs : s.stage = .htResolved) (h : settle .bodyResolved (resolveBody s) = .next t) : Inv t := by
  obtain ⟨hreads, ha, hbyte, hfields⟩ := reading_of_inv hinv hs (by decide) rfl
  rw [resolveBody_aligned ha] at h
  refine inv_settle (f := { s.fields with hdrLen := s.cur.byte }) hinv hreads { hfields.absent with } (fun hfits => ?_) h
  have hfills : s.cur.byte + (s.len - s.cur.byte - 4) + 4 = s.len := by omega
  exact inv_after_read hinv hreads (by decide) rfl (Nat.sub_le _ _) hfields.withBody fun _ => ⟨hbyte, rfl, hfills⟩

/-- Where the body check has passed the integrity field fits (R87, R97). -/
theorem inv_integrity (hinv : Inv s) (hs : s.stage = .bodyResolved)
    (h : settle .integrityFieldRead (readIntegrity s) = .next t) : Inv t := by
  obtain ⟨hreads, ha, hbyte, hfields⟩ := reading_of_inv hinv hs (by decide) rfl
  have hbody : FillsBuffer s.fc s.len s.fields := hinv.result.body (by rw [hs]; decide)
  have hend : s.cur.byte + 4 = s.len := by
    obtain ⟨-, -, hfills⟩ := hbody
    omega
  rw [readIntegrity_fits ha hend.le, settle_ok] at h
  cases h
  exact inv_after_read hinv hreads (by decide) (congrArg some hend.symm) hend.le hfields.withIntegrity fun _ => hbody

theorem inv_finish (hinv : Inv s) (hs : s.stage = .integrityFieldRead) : Inv (finish s.fc s) := by
  obtain ⟨hreads, ha, hbyte, hfields⟩ := reading_of_inv hinv hs (by decide) rfl
  have hcursor : CursorOk (finish s.fc s) := cursorOk_of_aligned ha (congrArg some hbyte.symm) hbyte.le
  exact inv_of_progress (by decide : 1 ≤ Safety.progress .done) { hinv.input with } hcursor (hinv.registers.version hreads.1)
    hfields.finish rfl ⟨rfl, rfl⟩ fun _ => hinv.result.body (by rw [hs]; decide)

/-- Frame Control, at the front of the buffer, does not fit, is of another version, or is in its registers (R62, R63). -/
theorem inv_start (hinv : Inv s) (hs : s.stage = .start) (h : advance s = .next t) : Inv t := by
  have hfresh : s = (hardReset s).setStage .start := hinv.registers.start hs
  have hcur : s.cur = Cursor.atByte 0 := congrArg State.cur hfresh
  have hbyte : s.cur.byte = 0 := congrArg Cursor.byte hcur
  have hroles : s.roles = State.reset.roles := by rw [hfresh]; rfl
  have hfields : s.fields = Fields.reset := congrArg State.fields hfresh
  have hoptional : OptionalFieldsOk (bufferControl s.buf) 1 s.fields := hfields ▸ optionalFieldsOk_reset _ (by decide)
  have hclass : (fetchedInstr (s.buf.read16 0)).frameControl = bufferControl s.buf := by
    rw [fetchedInstr_read16, frameControl_decodeFrameControl]; rfl
  rw [advance_start hs (congrArg Cursor.bit hcur), hbyte] at h
  split_ifs at h with hshort
  · cases h
    exact inv_of_failed rfl { hinv.input with } hinv.cursor.within hoptional.absent hroles ⟨.inl rfl, Nat.zero_le _⟩
  have hfits : 2 ≤ s.len := Nat.not_lt.mp hshort
  have hstage : (s.setCur (Cursor.atByte (0 + 2))).stage = .start := hs
  by_cases hversion : (bufferControl s.buf).version = Config.versionSupported
  · rw [exec_start_supported hstage (by rw [hclass]; exact hversion), hclass] at h
    cases h
    exact inv_of_progress (by decide : 1 ≤ Safety.progress .frameControlDecoded) { hinv.input with }
      (cursorOk_of_aligned rfl rfl hfits) ⟨rfl, hversion⟩ hoptional hroles
      (hinv.result.noError (by rw [hs]; decide)) fun h => absurd h (by decide : ¬ 7 ≤ 1)
  · rw [exec_start_unsupported hstage (by rw [hclass]; exact hversion), hclass] at h
    cases h
    exact inv_of_failed rfl { hinv.input with } (Nat.mul_le_mul_left 8 hfits) hoptional.absent hroles
      ⟨.inr ⟨rfl, rfl⟩, Nat.zero_le _⟩

theorem advance_eq_advanceWith (s : State) : advance s = advanceWith hardware s := by
  unfold advanceWith
  rw [execWith_hardware]
  rfl

/-- A transition of the class in progress, from any state but `Start` (R88). -/
theorem inv_transition (hinv : Inv s) (hstart : s.stage ≠ .start) (h : transition hardware s.fc s = .next t) : Inv t := by
  cases hs : s.stage <;> simp only [transition, hs] at h
  case idle | done | failed => cases h; exact hinv
  case start => exact absurd hs hstart
  case frameControlDecoded => exact inv_addresses hinv hs h
  case addressesDecoded => exact inv_sequence hinv hs h
  case sequenceControlResolved => exact inv_addr4 hinv hs h
  case address4Resolved => exact inv_qos hinv hs h
  case qosResolved => exact inv_ht hinv hs h
  case htResolved => exact inv_body hinv hs h
  case bodyResolved => exact inv_integrity hinv hs h
  case integrityFieldRead => cases h; exact inv_finish hinv hs

theorem inv_advance (hinv : Inv s) (h : advance s = .next t) : Inv t := by
  by_cases hs : s.stage = .start
  · exact inv_start hinv hs h
  · rw [advance_eq_advanceWith, advanceWith_of_ne_start hs] at h
    exact inv_transition hinv hs h

/-- Settles O51: reset and request start afresh, a waiting decoder stays, and a busy one makes a transition. -/
theorem everyStepKeepsTheInvariant : Obligations.EveryStepKeepsTheInvariant := by
  intro s t hinv h
  have hsampled : Inv s.sampled := inv_setHost hinv s.host.tail
  obtain ⟨-, he⟩ | ⟨frame, -, -, he⟩ | ⟨-, -, he⟩ | ⟨-, -, he⟩ := step_cases s <;> rw [he] at h
  · cases h; exact inv_hardReset hsampled.input
  · cases h; exact inv_acceptRequest frame s.sampled
  · cases h; exact hsampled
  · exact inv_advance hsampled h

end Sys2Proof.Machine
end
